-- ==== Sys2Proof/Word.lean ====
section
/-! DEFINITION. The word types of the DW412 and the index types of its numbered things. -/

namespace Sys2Proof

/-- A byte of the shared work area, of a link transaction or of a cell line frame. -/
abbrev Byte := BitVec 8

/-- A two-byte value, little-endian in the shared work area (chapter 11). -/
abbrev Half := BitVec 16

/-- A part-clock value: a 32-bit count of seconds that wraps (R93). -/
abbrev Clock := BitVec 32

/-- Strings are numbered 0 to 7. -/
abbrev StringId := Fin 8

/-- Positions in a string are numbered 0 to 23. -/
abbrev Position := Fin 24

/-- Slots of the order board are numbered 0 to 15. -/
abbrev SlotId := Fin 16

/-- Round contexts C0 to C3. -/
abbrev CtxId := Fin 4

/-- A set of strings: bit n stands for string n. -/
abbrev StringMask := BitVec 8

/-- A set of positions of one string: bit n stands for position n. -/
abbrev PosSet := BitVec 24

end Sys2Proof
end

