-- ==== Sys2Proof/Syntax.lean ====
section
/-! DEFINITION. The commands of the DW412: one constructor for each row of spec/opcode_table.json, with the
operands the row's rule calls for. The table gives no row any bits, so a command is not a word. -/

namespace Sys2Proof

/-- The data bytes a WRITE transaction shifts in, and its start address as shifted in: sixteen bits, of which the
low thirteen are used (R166). One burst may touch bytes of several owners (R172). -/
structure WriteBurst where
  addr : BitVec 16
  data : List Byte
  deriving DecidableEq, Repr

/-- A READ transaction may be ended after any whole byte (R166, R171): after the command byte, within the address,
or after `count` data bytes. -/
inductive ReadBurst where
  | commandOnly
  | addressHigh (high : Byte)
  | data (addr : BitVec 16) (count : Nat)
  deriving DecidableEq, Repr

/-- A transaction as its bytes arrive: the whole bytes shifted in, the command byte first, and the number of bits
of an unfinished byte after them (R166, R171). -/
structure RawTransaction where
  bytes : List Byte
  extraBits : Nat
  deriving DecidableEq, Repr

/-- A level of the two-wire cell line (chapter 3). -/
inductive LineLevel where
  | recessive
  | dominant
  deriving DecidableEq, Repr, Inhabited

/-- What a selector's feedback inputs show (R97): `between` is the manual's NONE, neither end has made its contact. -/
inductive Contact where
  | load
  | opened
  | equalise
  | between
  deriving DecidableEq, Repr

/-- The inputs the measurement unit reads for one sample, before they are clamped (R84, R85): bus voltages in mV,
the current into the equalise bus in 0.1 A (negative when it flows back), and the five lines (true is set). -/
structure Readings where
  eqVolts : Nat
  eqAmps : Int
  loadVolts : Nat
  chgFault : Bool
  resLow : Bool
  resEmpty : Bool
  mainsOk : Bool
  genRun : Bool
  deriving DecidableEq, Repr

/-- Those who take a sample's arrival, each independently of the others (R84). -/
inductive Consumer where
  | qualifier
  | context (c : CtxId)
  | charger
  | board
  | water
  deriving DecidableEq, Repr

/-- The two edges of a reset. As the part leaves it, CS# has some level (R181) and the feedback contacts show some
positions (R113). -/
inductive ResetEdge where
  | taken
  | left (csLow : Bool) (contacts : Vector Contact 8)
  deriving DecidableEq, Repr

/-- The two supply lines (R89). -/
inductive SupplyLine where
  | mainsOk
  | genRun
  deriving DecidableEq, Repr

/-- The commands, one constructor for each row of spec/opcode_table.json. -/
inductive Instr where
  /-- READ (R168). -/
  | read (t : ReadBurst)
  /-- FRAMING_ERROR (R171). -/
  | framingError (t : RawTransaction)
  /-- REGISTER_WRITE (R173). -/
  | registerWrite (w : WriteBurst)
  /-- BODY_WRITE (R3). -/
  | bodyWrite (w : WriteBurst)
  /-- PROFILE_WRITE (R178). -/
  | profileWrite (w : WriteBurst)
  /-- EVENT_STATUS_CLEAR (R183). -/
  | eventStatusClear (w : WriteBurst)
  /-- STAND_DOWN (R24). -/
  | standDown (w : WriteBurst)
  /-- GO_DORMANT (R190). -/
  | goDormant (w : WriteBurst)
  /-- CONFIRM_PROFILE (R179). -/
  | confirmProfile (w : WriteBurst)
  /-- POST (R8). -/
  | post (w : WriteBurst)
  /-- RELEASE (R22). -/
  | release (w : WriteBurst)
  /-- WITHDRAW (R23). -/
  | withdraw (w : WriteBurst)
  /-- START_BY_EXPIRY (R19). -/
  | startByExpiry (n : SlotId)
  /-- REST_ENDED (R112). -/
  | restEnded (g : StringId)
  /-- SAMPLE (R84): the readings, and the order in which the consumers take the arrival. -/
  | sample (r : Readings) (order : List Consumer)
  /-- SUPPLY_LINE_QUALIFIED (R89). -/
  | supplyLineQualified
  /-- HOLD_TIME_LIMIT (R126). -/
  | holdTimeLimit (c : CtxId)
  /-- FEEDBACK_CHANGE (R97). -/
  | feedbackChange (g : StringId) (shown : Contact)
  /-- TRANSFER_TIMEOUT (R103). -/
  | transferTimeout (g : StringId)
  /-- SETTLING_READING (R114). -/
  | settlingReading
  /-- WAKE_PATTERN_SENT (R45). -/
  | wakePatternSent
  /-- WAKE_SETTLE_END (R45). -/
  | wakeSettleEnd
  /-- IDLE_TIMER_EXPIRY (R46). -/
  | idleTimerExpiry
  /-- SLEEP_SENT (R46). -/
  | sleepSent
  /-- CALL_SENT (R51). -/
  | callSent
  /-- FRAME_RECEIVED (R55): the line's level in each bit time, from the start mark on (R198). -/
  | frameReceived (levels : List LineLevel)
  /-- SWEEP_WINDOW_END (R53). -/
  | sweepWindowEnd
  /-- RECOVERY_EXPIRY (R61). -/
  | recoveryExpiry
  /-- PRECHARGE_TIMEOUT (R121). -/
  | prechargeTimeout (c : CtxId)
  /-- RAMP_TIMEOUT (R123). -/
  | rampTimeout (c : CtxId)
  /-- HOLD_INTERVAL_EXPIRY (R124). -/
  | holdIntervalExpiry (c : CtxId)
  /-- MATCH_TIMEOUT (R127). -/
  | matchTimeout (c : CtxId)
  /-- FLOW_PULSE (R148). -/
  | flowPulse
  /-- DRY_TIMER_EXPIRY (R155). -/
  | dryTimerExpiry (c : CtxId)
  /-- STOP_TIMER_EXPIRY (R156). -/
  | stopTimerExpiry (c : CtxId)
  /-- FILL_TIMEOUT (R156). -/
  | fillTimeout (c : CtxId)
  /-- COAST_ENDED (R148). -/
  | coastEnded
  /-- VERIFY_TIMER_EXPIRY (R158). -/
  | verifyTimerExpiry (c : CtxId)
  /-- HOLDOFF_EXPIRY (R188). -/
  | holdoffExpiry
  /-- WAKE_TIMER_EXPIRY (R193). -/
  | wakeTimerExpiry
  /-- SUPPLY_WAKE (R193): the line whose level changed. -/
  | supplyWake (line : SupplyLine)
  /-- POWER_ON_RESET (R195). -/
  | powerOnReset (edge : ResetEdge)
  /-- PIN_RESET (R195). -/
  | pinReset (edge : ResetEdge)
  /-- PART_CLOCK_ADVANCE (R93). -/
  | partClockAdvance
  /-- CS_RISE_AFTER_RESET (R181). -/
  | csRiseAfterReset
  deriving DecidableEq, Repr

end Sys2Proof
end

