-- ==== Sys2Proof/Decode.lean ====
section
/-! DEFINITION. Decoding: no row of spec/opcode_table.json gives bits, so no word spells a command (log 1). -/

namespace Sys2Proof

/-- The command a word spells by the bits of the table: none, for the table gives its rows no bits. -/
def decodeTableWord (_nbits _w : Nat) : Option Instr := none

end Sys2Proof
end

