-- ==== Sys2Proof/Machine/Frames.lean ====
section
/-! DEFINITION. The frames of the cell line: characters and start marks as line levels (R198), the frame check
(R199), and the frames the part sends. -/

namespace Sys2Proof.Machine

/-! ## The frame check (R199) -/

/-- One data bit: the register is shifted left, and combined with 0x1021 if the bit shifted out differs from it. -/
def crcBit (r : BitVec 16) (bit : Bool) : BitVec 16 :=
  if r.getMsbD 0 != bit then (r <<< 1) ^^^ 0x1021 else r <<< 1

/-- One byte, most significant bit first. -/
def crcByte (r : BitVec 16) (b : Byte) : BitVec 16 :=
  crcBit (crcBit (crcBit (crcBit (crcBit (crcBit (crcBit (crcBit r (b.getLsbD 7)) (b.getLsbD 6)) (b.getLsbD 5))
    (b.getLsbD 4)) (b.getLsbD 3)) (b.getLsbD 2)) (b.getLsbD 1)) (b.getLsbD 0)

/-- The frame check over a frame's bytes, from byte 0 on. -/
def frameCheck (bytes : List Byte) : BitVec 16 := bytes.foldl crcByte 0xFFFF

/-- A frame with its check appended, least significant byte first (R198, R199). -/
def withCheck (bytes : List Byte) : List Byte :=
  bytes ++ [(frameCheck bytes).extractLsb' 0 8, (frameCheck bytes).extractLsb' 8 8]

/-- The CALL frame of a sweep: kind 1 and tag, string mask, check (section 11.8). -/
def callFrame (tag : BitVec 4) (mask : StringMask) : List Byte := withCheck [(0x1 : BitVec 4) ++ tag, mask]

/-- The SLEEP frame: kind 2, check (section 11.8). -/
def sleepFrame : List Byte := withCheck [0x20]

/-! ## Characters and start marks (R198) -/

/-- A data bit as the line carries it: 0 dominant, 1 recessive. -/
def bitLevel (b : Bool) : LineLevel := if b then .recessive else .dominant

/-- A data bit as the receiver reads it. -/
def levelBit : LineLevel → Bool
  | .recessive => true
  | .dominant => false

/-- A character: a dominant start bit, eight data bits least significant first, a recessive stop bit. -/
def charLevels (b : Byte) : List LineLevel :=
  [.dominant, bitLevel (b.getLsbD 0), bitLevel (b.getLsbD 1), bitLevel (b.getLsbD 2), bitLevel (b.getLsbD 3),
    bitLevel (b.getLsbD 4), bitLevel (b.getLsbD 5), bitLevel (b.getLsbD 6), bitLevel (b.getLsbD 7), .recessive]

/-- The start mark: twelve bit times dominant, one recessive. -/
def startMark : List LineLevel := List.replicate 12 .dominant ++ [.recessive]

/-- A frame on the line: the start mark, then its characters without gap. -/
def frameLevels (bytes : List Byte) : List LineLevel := startMark ++ (bytes.map charLevels).flatten

/-! ## The receiver (R55, R198) -/

/-- How many bytes a READING has (R198). -/
def readingLength : Nat := 11

/-- What the receiver knows of the line: the level it is at and for how many bit times it has been, the bytes of the
frame being received (none while it waits for a start mark), and the data bits of the character being received (none
between characters): how many have come, and what they make. -/
structure Hearing where
  level : LineLevel
  run : Nat
  frame : Option (List Byte)
  char : Option (Nat × Byte)
  deriving DecidableEq, Repr

/-- The line at rest, no frame begun. -/
def Hearing.rest : Hearing := { level := .recessive, run := 0, frame := none, char := none }

/-- How long the line has been at a level, one bit time on. -/
def Hearing.runOf (h : Hearing) (x : LineLevel) : Nat := if x = h.level then h.run + 1 else 1

/-- The frame being received is over: it is complete, or cut. The receiver waits for the next start mark; a dominant
run goes on and may become one (R198). -/
def Hearing.done (h : Hearing) : Hearing := { h with frame := none, char := none }

/-- A data bit joins those of its character, least significant first. -/
def shiftIn (v : Byte) (x : LineLevel) : Byte := BitVec.ofBool (levelBit x) ++ v.extractLsb' 1 7

/-- The level ends a start mark: a dominant run of at least eleven bit times that ends in recessive (R198). -/
def Hearing.endsMark (h : Hearing) (x : LineLevel) : Bool := x == .recessive && h.level == .dominant && 11 ≤ h.run

/-- A bit time between two characters: a start bit, or a gap, which truncates the frame once the line has been
recessive for more than ten bit times, counted from when it became recessive (R55; log 36). -/
def Hearing.gap (h : Hearing) (bytes : List Byte) : Hearing × Option (List Byte) :=
  match h.level with
  | .dominant => ({ h with char := some (0, 0) }, none)
  | .recessive => if 10 < h.run then (h.done, some bytes) else (h, none)

/-- The bit time of a stop bit: a recessive one ends the character, and with the eleventh the frame; a dominant one
truncates the frame (R55, R198). -/
def Hearing.stop (h : Hearing) (bytes : List Byte) (v : Byte) : Hearing × Option (List Byte) :=
  match h.level with
  | .dominant => (h.done, some bytes)
  | .recessive =>
    let all := bytes ++ [v]
    if all.length = readingLength then (h.done, some all) else ({ h with frame := some all, char := none }, none)

/-- One bit time at a level, and the bytes of the frame that ends or is cut in it. -/
def Hearing.hear (h : Hearing) (x : LineLevel) : Hearing × Option (List Byte) :=
  let h' := { h with level := x, run := h.runOf x }
  match h.frame, h.char with
  | none, _ => (if h.endsMark x then { h' with frame := some [] } else h', none)
  | some bytes, none => h'.gap bytes
  | some bytes, some (k, v) => if k < 8 then ({ h' with char := some (k + 1, shiftIn v x) }, none) else h'.stop bytes v

/-- The frames that end or are cut as the line takes these levels, first first, each by its bytes: eleven, or fewer
where it was truncated. A frame of another kind than READING, which R55 classifies as soon as its kind has arrived, is
among them once, as every frame is, and its bytes make it bad (`readingOf`). -/
def Hearing.frames : Hearing → List LineLevel → List (List Byte)
  | _, [] => []
  | h, x :: xs =>
    match h.hear x with
    | (h', some bytes) => bytes :: h'.frames xs
    | (h', none) => h'.frames xs

/-- The frames the receiver takes from a line at rest. After the last level given the line rests recessive, for long
enough to truncate what is not complete (R55). -/
def receiveFrames (levels : List LineLevel) : List (List Byte) :=
  Hearing.rest.frames (levels ++ List.replicate 11 .recessive)

/-! ## Readings -/

/-- A READING's fields (section 11.8). -/
structure Reading where
  tag : BitVec 4
  source : Byte
  voltage : Half
  temperature : Half
  level : Byte
  gravity : Half
  deriving DecidableEq, Repr

/-- Two bytes of a frame, least significant first. -/
def frameHalf (low high : Byte) : Half := high ++ low

/-- The reading a received frame carries if it is whole, of kind READING and passes its frame check; none makes it
bad (R56). -/
def readingOf : List Byte → Option Reading
  | [k, src, v0, v1, t0, t1, lv, g0, g1, c0, c1] =>
    if k.extractLsb' 4 4 = 0x8#4 ∧ frameCheck [k, src, v0, v1, t0, t1, lv, g0, g1] = frameHalf c0 c1 then
      some { tag := k.extractLsb' 0 4, source := src, voltage := frameHalf v0 v1, temperature := frameHalf t0 t1,
             level := lv, gravity := frameHalf g0 g1 }
    else none
  | _ => none

/-- The READING frame a sensor sends for these fields (section 11.8). -/
def readingFrame (r : Reading) : List Byte :=
  withCheck [(0x8 : BitVec 4) ++ r.tag, r.source, r.voltage.extractLsb' 0 8, r.voltage.extractLsb' 8 8,
    r.temperature.extractLsb' 0 8, r.temperature.extractLsb' 8 8, r.level, r.gravity.extractLsb' 0 8,
    r.gravity.extractLsb' 8 8]

/-- The position part of a source address. -/
def Reading.position (r : Reading) : Nat := r.source.toNat % 32

/-- The string part of a source address. -/
def Reading.stringId (r : Reading) : StringId := ⟨r.source.toNat / 32 % 8, Nat.mod_lt _ (by decide)⟩

/-- The reading's fields lie in the ranges of R56. -/
def Reading.inRange (r : Reading) : Bool :=
  r.position < 24 && r.voltage.toNat ≤ 3000 && (-400 ≤ r.temperature.toInt && r.temperature.toInt ≤ 850)
    && r.level.toNat ≤ 3
    && (r.gravity.toNat == 0 || (1000 ≤ r.gravity.toNat && r.gravity.toNat ≤ 1350))

end Sys2Proof.Machine
end

