-- ==== Sys2Proof/Config.lean ====
section
/-! DEFINITION. What is fixed for the part, and the free values: constants with no body, of which nothing can be
proved but that they have some value. -/

namespace Sys2Proof

/-- FREE VALUE (log 13). The level the n-th guard check finds on the cell line (R50) where the state's script
does not fix it: other stations drive the line, and no command of the table carries its level. -/
opaque Config.guardLevel : Nat → LineLevel

/-- FREE VALUE (log 14). What SDO carries for the 65th and later data bytes of a WRITE in INCREMENT mode: R169's
snapshot holds 64 addresses, and R168 gives the zeros after the 64th byte for a READ alone. -/
opaque Config.freeByte : Nat → Byte

/-- FREE VALUE (log 27). The mean temperature of the census cells of a string that has none, which R119 does not
state. -/
opaque Config.meanOfNone : StringId → Int

/-- The family code at 0x0000 (chapter 0, R173). -/
def Config.familyCode : Byte := 0x4D

/-- The revision at 0x0001 (chapter 0, R173). -/
def Config.revision : Byte := 0x03

/-- DESIGN CHOICE (log 15). How many pieces of internal work one command may do before the next command: far more
than any command has. -/
def Config.workBudget : Nat := 65536

end Sys2Proof
end

