-- ==== Sys2Proof/Machine/State.lean ====
section
/-! DEFINITION. The state of the DW412, block by block, as plain data, and the state right after power-on reset. -/

namespace Sys2Proof.Machine

/-! ## Names and codes (chapter 11, section 11.9) -/

/-- The stored marks (R1). -/
inductive Mark where
  | free
  | queued
  | running
  | settled
  | refused
  deriving DecidableEq, Repr

/-- The kinds of order a round context carries out (R26); `giveBack` is the manual's RETURN. -/
inductive Kind where
  | survey
  | equalise
  | water
  | giveBack
  deriving DecidableEq, Repr

/-- The phases (R28). -/
inductive Phase where
  | idle
  | sweeping
  | census
  | check
  | isolating
  | precharge
  | connecting
  | ramp
  | hold
  | matching
  | returning
  | restWait
  | levelCheck
  | prime
  | fill
  | verifyWait
  | verify
  deriving DecidableEq, Repr

/-- The per-string outcomes (R32, section 11.9). -/
inductive Outcome where
  | notInMask
  | notReached
  | inProgress
  | surveyed
  | censusEstablished
  | censusUnstable
  | eqSettled
  | eqTimed
  | eqChargeCap
  | skippedHot
  | skippedLow
  | skippedReserve
  | cellHigh
  | cellHot
  | blindCell
  | rampTimeout
  | prechargeTimeout
  | selectorFault
  | stranded
  | siteAbort
  | returned
  | watered
  | wateredUnverified
  | notNeeded
  | stillLow
  | volumeCap
  | fillTimeout
  | reservoirEmpty
  | interrupted
  deriving DecidableEq, Repr

/-- The site causes, and the two causes of queued settlements (R34). -/
inductive Cause where
  | withdrawn
  | standDown
  | supplyLost
  | lineLost
  | chargerFault
  | reserveLost
  | reservoirEmpty
  | pumpFault
  | leak
  | censusLost
  | expired
  deriving DecidableEq, Repr

/-- The refusal reasons of a POST (R8). -/
inductive Reason where
  | unknownKind
  | emptyMask
  | stringNotFitted
  | paramRange
  | profileUnconfirmed
  | noCensus
  | notStranded
  | standingDown
  | stringFaulted
  deriving DecidableEq, Repr

/-- The order outcomes (R39). -/
inductive OrderOutcome where
  | noneYet
  | done
  | partly
  | aborted
  | withdrawn
  | expired
  deriving DecidableEq, Repr

/-- The first-cause byte of a result section: none, a cause, or a refusal reason (section 11.4). -/
inductive FirstCause where
  | none
  | cause (x : Cause)
  | reason (x : Reason)
  deriving DecidableEq, Repr

/-- The sixteen events (chapter 10). -/
inductive Event where
  | powerOn
  | pinReset
  | settled
  | selectorFault
  | stranded
  | cellFlag
  | lineFault
  | lineRecovered
  | resLow
  | resEmpty
  | waterFault
  | supplyChange
  | portError
  | profileReject
  | controlRefused
  | standDownDone
  deriving DecidableEq, Repr

/-- The purposes of a sweep (R47). -/
inductive Purpose where
  | survey
  | census
  | check
  | hold
  | level
  | verify
  | estimate
  deriving DecidableEq, Repr

/-- The selector states (R98). -/
inductive SelState where
  | atLoad
  | goingOpen
  | atOpen
  | goingEq
  | atEq
  | goingLoad
  | faulted
  deriving DecidableEq, Repr

/-- The commanded positions (R96). -/
inductive Drive where
  | load
  | opened
  | equalise
  deriving DecidableEq, Repr

/-- The census states (R76). -/
inductive Census where
  | unknown
  | provisional
  | established
  | unstable
  deriving DecidableEq, Repr

/-- The line states (R43). -/
inductive LineState where
  | off
  | asleep
  | waking
  | active
  | faulted
  deriving DecidableEq, Repr

/-- The causes of an entry to FAULTED of the cell line (R43). -/
inductive LineCause where
  | none
  | degraded
  | stuck
  | silent
  deriving DecidableEq, Repr

/-- The water path states (R142). -/
inductive PathState where
  | ready
  | busy
  | empty
  | faulted
  deriving DecidableEq, Repr

/-- The causes of an entry to FAULTED of the water path (R142). -/
inductive PathCause where
  | none
  | dry
  | leak
  deriving DecidableEq, Repr

/-- The supply states (R90). -/
inductive Supply where
  | lean
  | generator
  | rich
  deriving DecidableEq, Repr

/-- The power states (R189). -/
inductive Power where
  | active
  | dormant
  deriving DecidableEq, Repr

/-- The sources of the most recent wake (R189). -/
inductive WakeSource where
  | none
  | link
  | supplyLine
  | wakeTimer
  deriving DecidableEq, Repr

/-- The level codes of a cell record (R66). -/
inductive Level where
  | above
  | below
  | probeFault
  | noProbe
  deriving DecidableEq, Repr

/-- The kinds of a settle reference (R66). -/
inductive RefKind where
  | none
  | voltage
  | gravity
  deriving DecidableEq, Repr

/-- The two resets. -/
inductive ResetKind where
  | powerOn
  | pin
  deriving DecidableEq, Repr

/-! ## Profile store and controller link (chapter 9) -/

/-- The 64 bytes of the site profile, the confirmed flag at offset 0x3F among them (R178 to R180). -/
structure Profile where
  bytes : Vector Byte 64
  deriving DecidableEq, Repr

/-- The link's own words (R181). -/
structure Link where
  portMode : Byte
  control : Byte
  lock : Byte
  prevError : Bool
  portErrorDetail : Byte
  rejectDetail : Byte
  /-- CS# was low as the part left reset and has not risen since (R181). -/
  ignoring : Bool
  /-- What SDO carried in the latest transaction, the global status byte first (R167, R168). -/
  sdo : List Byte
  /-- The model's own: how many free bytes have been used (log 14). -/
  freeReads : Nat
  deriving DecidableEq, Repr

/-! ## Alert unit (chapter 10) -/

/-- The alert unit's state (R195). -/
structure Alert where
  status : BitVec 16
  enables : BitVec 16
  holdoffWord : Byte
  /-- The holdoff timer, if it runs: the time in ms it was started for (R188). -/
  holdoff : Option Nat
  /-- ALERT# is driven low (R187). -/
  asserted : Bool
  resetCause : Byte
  power : Power
  wakeSource : WakeSource
  /-- The wake timer, if it runs: the clock value at which it expires (R193). -/
  wakeTimer : Option Clock
  deriving DecidableEq, Repr

/-! ## Measurement unit and supply qualifier (chapter 5) -/

/-- The five lines of a sample (R84); true is set. -/
structure Lines where
  chgFault : Bool
  resLow : Bool
  resEmpty : Bool
  mainsOk : Bool
  genRun : Bool
  deriving DecidableEq, Repr

/-- A sample (R84). -/
structure Sample where
  time : Clock
  eqVolts : Nat
  eqAmps : Nat
  loadVolts : Nat
  lines : Lines
  deriving DecidableEq, Repr

/-- The supply qualifier (R89, R90). -/
structure SupplyUnit where
  mains : Bool
  gen : Bool
  mainsCount : Nat
  genCount : Nat
  state : Supply
  deriving DecidableEq, Repr

/-! ## Order board (chapter 1) -/

/-- A result section (section 11.4). -/
structure Result where
  outcome : OrderOutcome
  first : FirstCause
  later : Nat
  late : Bool
  accepted : Clock
  started : Clock
  settled : Clock
  primary : Vector Outcome 8
  watering : Vector Outcome 8
  deriving DecidableEq, Repr

/-- A slot: its mark, its body (bytes 1 to 31), its result section, and the board's bookkeeping (R1). -/
structure Slot where
  mark : Mark
  body : Vector Byte 31
  result : Result
  /-- The acceptance sequence number; none when it is cleared (R22, R25). -/
  seq : Option Nat
  passOver : Nat
  deadline : Option Clock
  withdrawNote : Bool
  deriving DecidableEq, Repr

/-- The order board. The settled set is computed from the marks (R22). -/
structure Board where
  slots : Vector Slot 16
  queue : List SlotId
  favoured : Option SlotId
  nextSeq : Nat
  standingDown : Bool
  deriving DecidableEq, Repr

/-! ## Round engine (chapter 2) -/

/-- A busy round context (R26). A free context has no round. -/
structure Round where
  slot : SlotId
  kind : Kind
  phase : Phase
  cur : Option StringId
  remaining : StringMask
  pendingOutcome : Option Outcome
  phaseStart : Clock
  holdElapsed : Nat
  settledCells : Nat
  censusCount : Nat
  /-- In units of 0.1 A·s (R92); the charge field is this divided by 36. -/
  chargeSum : Nat
  waterVolume : Nat
  sweepsIssued : Nat
  sweepsFailed : Nat
  firstCause : Option Cause
  laterCauses : Nat
  perCell : Nat
  primary : Vector Outcome 8
  watering : Vector Outcome 8
  /-- The watering part has begun (R28, R137). -/
  inWatering : Bool
  /-- The string has left LOAD in this round (R117); for a RETURN, it has entered SWEEPING (R140). -/
  leftLoad : Bool
  /-- The string has entered RAMP in this round (R117). -/
  enteredRamp : Bool
  /-- The string has entered PRIME in this round (R152). -/
  enteredPrime : Bool
  /-- The compensation temperature, in 0.1 °C (R119). -/
  compTemp : Int
  /-- The precharge target, in mV (R120, R138). -/
  prechargeTarget : Nat
  /-- When the hold interval timer was last started (R124). -/
  holdTimer : Clock
  /-- A HOLD sweep is due and waits for the one before it (R124). -/
  holdDue : Bool
  /-- The return under way is a stranding return (R129). -/
  stranding : Bool
  /-- In CONNECTING, the string is on its way back from EQUALISE for a return from OPEN (R130). -/
  backToOpen : Bool
  /-- The time of the latest flow pulse in FILL (R156). -/
  lastPulse : Clock
  /-- In PRIME or FILL, the valve has closed and the coast runs (R157). -/
  coasting : Bool
  deriving DecidableEq, Repr

/-- The claims table (R30). -/
structure Claims where
  charger : Option CtxId
  water : Option CtxId
  strings : Vector (Option CtxId) 8
  deriving DecidableEq, Repr

/-! ## Cell line (chapter 3) -/

/-- A set of sensor addresses: for each string, a set of positions. -/
abbrev AddrSet := Vector PosSet 8

/-- A request on the sweep list (R47). The slot names the round the context makes it for. -/
structure Request where
  ctx : CtxId
  slot : SlotId
  mask : StringMask
  purpose : Purpose
  deriving DecidableEq, Repr

/-- The sweep in progress (R49 to R53). -/
structure Sweep where
  req : Request
  withdrawn : Bool
  tag : BitVec 4
  expected : AddrSet
  replied : AddrSet
  windowOpen : Bool
  deriving DecidableEq, Repr

/-- What the part is driving onto the line (R45, R46, R51): the wake pattern, dominant, recessive and dominant for 2 ms
each, or a frame as its levels, one for each bit time, the start mark first (R198). -/
inductive Sending where
  | nothing
  | wakePattern
  | call (levels : List LineLevel)
  | sleep (levels : List LineLevel)
  deriving DecidableEq, Repr

/-- The cell line (R65). A timer that runs holds the time it was started for, in the unit of its profile field. -/
structure Line where
  state : LineState
  cause : LineCause
  errors : Nat
  stuck : Nat
  silent : Nat
  faultCount : Nat
  strayCount : Nat
  nextTag : BitVec 4
  list : List Request
  sweep : Option Sweep
  /-- A completion is going out: the next sweep does not start before it has (R53). -/
  finishing : Bool
  trial : Bool
  sending : Sending
  idle : Option Nat
  settle : Option Nat
  recovery : Option Nat
  window : Option Nat
  /-- The model's own (log 13): the levels the coming guard checks find, and the free values used. -/
  guardScript : List LineLevel
  guardReads : Nat
  deriving DecidableEq, Repr

/-! ## Cell table and string table (chapters 4 and 6) -/

/-- A cell record (R66). The sticky flags are bits 0 to 5 of section 11.6. -/
structure Cell where
  voltage : Half
  temperature : Half
  gravity : Half
  level : Level
  flags : Byte
  streak : Nat
  refKind : RefKind
  reference : Half
  misses : Nat
  lastTime : Clock
  deriving DecidableEq, Repr

/-- A string's record (R111) and what the selector unit holds beside it. The owner context is the claims table's
entry, and the census count is the size of the census set. The sticky flags are bits 0 to 4 of section 11.5. -/
structure StringRec where
  cellsCopy : Byte
  census : Census
  censusSet : PosSet
  sel : SelState
  commanded : Drive
  observed : Contact
  stranded : Bool
  inRound : Bool
  flags : Byte
  lastEqTime : Clock
  lastEqOutcome : Option Outcome
  eqCount : Nat
  lastWaterTime : Clock
  lastFill : Nat
  waterCount : Nat
  restUntil : Clock
  /-- The rest-until time was written later than the clock, and its event is still to come (R112). -/
  restArmed : Bool
  /-- The origin of a transfer in GOING_OPEN (R98). -/
  origin : Option Contact
  /-- The transfer timer, if it runs: the time in ms it was started for (R101). -/
  timer : Option Nat
  deriving DecidableEq, Repr

/-! ## Charger port and water path (chapters 7 and 8) -/

/-- The charger port (R115). -/
structure Charger where
  enable : Bool
  setpoint : Nat
  limit : Nat
  deriving DecidableEq, Repr

/-- The water path (R142). -/
structure Water where
  state : PathState
  cause : PathCause
  valve : Option StringId
  pump : Bool
  /-- The coasting string and the clock value at which the coast ends (R148). -/
  coast : Option (StringId × Clock)
  idle : Nat
  deriving DecidableEq, Repr

/-! ## The blocks together -/

/-- What one block hands another inside a step (log 15). A piece that is meant for a round names its slot, so that
it is dropped if the context has been freed meanwhile (R34). -/
inductive Work where
  /-- A dispatch scan (R14). -/
  | scan
  /-- The rest of a dispatch scan's walk. -/
  | walk (rest : List SlotId)
  /-- A dispatched round begins (R29). -/
  | beginRound (c : CtxId) (n : SlotId)
  /-- A consumer takes the latest sample; the line values of the sample before it come along (R84). -/
  | arrival (k : Consumer) (prev : Lines)
  /-- A site cause is delivered (R34). -/
  | cause (c : CtxId) (n : SlotId) (x : Cause)
  /-- A sweep's completion is delivered (R53, R59). -/
  | completion (q : Request) (ok : Bool) (replied missing : AddrSet)
  /-- A frame ends or is cut on the line (R55). -/
  | received (bytes : List Byte)
  /-- A failed guard check has been delivered, and the stuck count follows (R50). -/
  | guardFailed
  /-- A completion has been delivered, and steps 3 and 4 of R53 follow. -/
  | sweepDone (silent : Bool)
  /-- A transfer has completed (R102). -/
  | transferDone (c : CtxId) (n : SlotId) (g : StringId) (d : Drive)
  /-- The fault notice of a string (R104). -/
  | faultNotice (c : CtxId) (n : SlotId) (g : StringId)
  /-- A string's census has become UNKNOWN or UNSTABLE (R20, R76). -/
  | censusLost (g : StringId)
  /-- A stand-down goes on with the queued orders, then with the contexts (R24). -/
  | standDownNext
  /-- The causes of a stand-down have been delivered (R24). -/
  | standDownCheck
  /-- A string has closed: the round goes on or ends (R32, R38). -/
  | advance (c : CtxId) (n : SlotId)
  /-- A rest-ended event is handed to a context (R112, R151). -/
  | restOver (c : CtxId) (n : SlotId)
  deriving DecidableEq, Repr

/-- The blocks that act on one another: everything but the profile store, the link and the alert unit. -/
structure Engine where
  clock : Clock
  /-- The model's own (log 7): the clock advance of the coming sample has already been made. -/
  advanceTaken : Bool
  latest : Option Sample
  /-- The model's own (log 11): where the qualifier has yet to take the latest sample, the qualify time as the profile
  held it at that sample (R89). -/
  qualifierOwed : Option Nat
  supply : SupplyUnit
  board : Board
  ctxs : Vector (Option Round) 4
  claims : Claims
  line : Line
  cells : Vector (Vector Cell 24) 8
  strings : Vector StringRec 8
  /-- The settling reading still to come, with its time in ms (R114). -/
  settling : Option Nat
  charger : Charger
  water : Water
  /-- The model's own (log 15): work handed over and not yet done, next first. -/
  agenda : List Work
  /-- The model's own (log 15): events handed to the alert unit and not yet judged, first first. -/
  raised : List Event
  deriving DecidableEq, Repr

/-- The whole part, and the queue of commands that wait for it. -/
structure State where
  pending : List Instr
  /-- The reset the part is held in, if any. -/
  held : Option ResetKind
  profile : Profile
  link : Link
  alert : Alert
  eng : Engine
  deriving DecidableEq, Repr

/-- No command of the DW412 stops the part: every error the manual describes is a state of it. -/
inductive Fault where
  deriving DecidableEq, Repr

/-- Why a command has no meaning. -/
inductive Refusal where
  /-- Raised by exec's own arms alone, for a row that has no meaning yet (safe: nothing is claimed of it). -/
  | notModelled (mnemonic : String)
  deriving DecidableEq, Repr

/-! ## The values at reset -/

/-- The power-on profile (R179, section 11.3): fitted mask 0, reserve 2, 24 cells each, 2700 mV, 45.0 °C, 50.0 °C,
3 mV/°C, 500 mV, 500 ms, 60 s, 60 min, 30 s, 10 min, 60 min, 500 ms, 60 s, 2.0 s, 120 s, 5 s, 10 mL, 20 s, 8 s,
10 min, 120 s, no wake timer, flags 0x05, unused bytes 0, confirmed flag clear. -/
def Profile.powerOn : Profile :=
  ⟨#v[0x00, 0x02, 24, 24, 24, 24, 24, 24, 24, 24, 0x8C, 0x0A, 0xC2, 0x01, 0xF4, 0x01,
      0x03, 0xF4, 0x01, 0xF4, 0x01, 60, 0, 60, 30, 0, 10, 60, 0, 0xF4, 0x01, 60,
      0, 20, 120, 0, 5, 10, 20, 8, 10, 120, 0, 0, 0, 0x05, 0, 0,
      0, 0, 0, 0, 0, 0, 0, 0, 0, 0, 0, 0, 0, 0, 0, 0x00]⟩

/-- No outcome for any string. -/
def Outcome.noStrings : Vector Outcome 8 := Vector.replicate 8 .notInMask

/-- A result section whose bytes are all 0x00 (R25). -/
def Result.blank : Result :=
  { outcome := .noneYet, first := .none, later := 0, late := false, accepted := 0, started := 0, settled := 0,
    primary := Outcome.noStrings, watering := Outcome.noStrings }

/-- A slot at reset (R25). -/
def Slot.blank : Slot :=
  { mark := .free, body := Vector.replicate 31 0, result := Result.blank, seq := none, passOver := 0,
    deadline := none, withdrawNote := false }

/-- The order board at either reset (R25). -/
def Board.blank : Board :=
  { slots := Vector.replicate 16 Slot.blank, queue := [], favoured := none, nextSeq := 0, standingDown := false }

/-- The claims table at either reset: 0xFF in all ten entries (R30). -/
def Claims.blank : Claims := { charger := none, water := none, strings := Vector.replicate 8 none }

/-- No sensor address. -/
def AddrSet.empty : AddrSet := Vector.replicate 8 0

/-- The cell line at power-on reset (R65). -/
def Line.blank : Line :=
  { state := .off, cause := .none, errors := 0, stuck := 0, silent := 0, faultCount := 0, strayCount := 0,
    nextTag := 0, list := [], sweep := none, finishing := false, trial := false, sending := .nothing,
    idle := none, settle := none, recovery := none, window := none, guardScript := [], guardReads := 0 }

/-- A cell record that has never received a good reply (R66, R83). -/
def Cell.blank : Cell :=
  { voltage := 0, temperature := 0, gravity := 0, level := .above, flags := 0, streak := 0, refKind := .none,
    reference := 0, misses := 0, lastTime := 0 }

/-- A string's record at power-on reset (R113). The observed position is the model's choice (log 6). -/
def StringRec.blank : StringRec :=
  { cellsCopy := 0, census := .unknown, censusSet := 0, sel := .atLoad, commanded := .load, observed := .load,
    stranded := false, inRound := false, flags := 0, lastEqTime := 0, lastEqOutcome := none, eqCount := 0,
    lastWaterTime := 0, lastFill := 0, waterCount := 0, restUntil := 0, restArmed := false, origin := none,
    timer := none }

/-- The charger port at either reset: disabled (R115). -/
def Charger.blank : Charger := { enable := false, setpoint := 0, limit := 0 }

/-- The water path at either reset (R165). -/
def Water.blank : Water :=
  { state := .ready, cause := .none, valve := none, pump := false, coast := none, idle := 0 }

/-- The supply qualifier at either reset (R91). -/
def SupplyUnit.blank : SupplyUnit :=
  { mains := false, gen := false, mainsCount := 0, genCount := 0, state := .lean }

/-- The blocks at power-on reset. The settling reading waits for the transfer time of 500 ms (R114). -/
def Engine.powerOn : Engine :=
  { clock := 0, advanceTaken := false, latest := none, qualifierOwed := none, supply := SupplyUnit.blank,
    board := Board.blank, ctxs := Vector.replicate 4 none, claims := Claims.blank, line := Line.blank,
    cells := Vector.replicate 8 (Vector.replicate 24 Cell.blank), strings := Vector.replicate 8 StringRec.blank,
    settling := some 500, charger := Charger.blank, water := Water.blank, agenda := [], raised := [] }

/-- The link at power-on reset (R181). -/
def Link.powerOn : Link :=
  { portMode := 0, control := 0, lock := 0, prevError := false, portErrorDetail := 0, rejectDetail := 0xFF,
    ignoring := false, sdo := [], freeReads := 0 }

/-- The alert unit as the part leaves power-on reset: POWER_ON captured, ALERT# asserted (R195). -/
def Alert.powerOn : Alert :=
  { status := 0x0001, enables := 0xFFFF, holdoffWord := 50, holdoff := none, asserted := true, resetCause := 1,
    power := .active, wakeSource := .none, wakeTimer := none }

/-- The part right after power-on reset, with no command waiting. -/
def State.reset : State :=
  { pending := [], held := none, profile := Profile.powerOn, link := Link.powerOn, alert := Alert.powerOn,
    eng := Engine.powerOn }

end Sys2Proof.Machine
end

