-- ==== Sys2Proof/Machine/Fields.lean ====
section
/-! DEFINITION. Bytes and bit fields, and the fields of the site profile as the blocks read them (R178 to R180,
section 11.3). -/

namespace Sys2Proof.Machine

/-! ## Sets and bytes -/

/-- The strings in ascending order. -/
def allStrings : List StringId := [0, 1, 2, 3, 4, 5, 6, 7]

/-- The positions in ascending order. -/
def allPositions : List Position :=
  [0, 1, 2, 3, 4, 5, 6, 7, 8, 9, 10, 11, 12, 13, 14, 15, 16, 17, 18, 19, 20, 21, 22, 23]

/-- The slots in ascending order. -/
def allSlots : List SlotId := [0, 1, 2, 3, 4, 5, 6, 7, 8, 9, 10, 11, 12, 13, 14, 15]

/-- The contexts in ascending order. -/
def allCtxs : List CtxId := [0, 1, 2, 3]

/-- The string is in the mask. -/
def hasString (m : StringMask) (g : StringId) : Bool := m.getLsbD g.val

/-- The mask of one string. -/
def oneString (g : StringId) : StringMask := 1#8 <<< g.val

/-- The mask without a string. -/
def dropString (m : StringMask) (g : StringId) : StringMask := m &&& ~~~ oneString g

/-- The strings of a mask, ascending. -/
def stringsOf (m : StringMask) : List StringId := allStrings.filter (hasString m)

/-- The lowest string of a mask. -/
def lowestString (m : StringMask) : Option StringId := allStrings.find? (hasString m)

/-- The mask of the strings that pass a test. -/
def maskOf (f : StringId → Bool) : StringMask :=
  allStrings.foldl (fun m g => if f g then m ||| oneString g else m) 0

/-- The position is in the set. -/
def hasPos (s : PosSet) (q : Position) : Bool := s.getLsbD q.val

/-- The set of one position. -/
def onePos (q : Position) : PosSet := 1#24 <<< q.val

/-- The positions of a set, ascending. -/
def positionsOf (s : PosSet) : List Position := allPositions.filter (hasPos s)

/-- How many positions a set has. -/
def posCount (s : PosSet) : Nat := (positionsOf s).length

/-- The positions 0 to n - 1. -/
def firstPositions (n : Nat) : PosSet := BitVec.ofNat 24 (2 ^ n - 1)

/-- Byte k of a value in the shared work area, the least significant first (chapter 11). -/
def leByte (x k : Nat) : Byte := BitVec.ofNat 8 (x / 256 ^ k)

/-- One, saturating at a limit, more than a count. -/
def bump (limit n : Nat) : Nat := min limit (n + 1)

/-! ## Profile fields -/

/-- A field of the profile: where it lies, and its range (R179). -/
structure ProfileField where
  offset : Nat
  size : Nat
  signed : Bool
  low : Int
  high : Int
  deriving DecidableEq, Repr

/-- A byte of the profile. -/
def profileByte (p : Profile) (k : Nat) : Byte := p.bytes[k]?.getD 0

/-- A field as its bytes stand. -/
def fieldRaw (p : Profile) (f : ProfileField) : Int :=
  if f.size = 1 then (profileByte p f.offset).toNat
  else
    let w : Half := profileByte p (f.offset + 1) ++ profileByte p f.offset
    if f.signed then w.toInt else w.toNat

/-- A field as a block reads it: a value outside the range is the nearest end of it (R179). -/
def fieldRead (p : Profile) (f : ProfileField) : Int := max f.low (min f.high (fieldRaw p f))

/-- A field whose values are not negative, as a block reads it. -/
def fieldNat (p : Profile) (f : ProfileField) : Nat := (fieldRead p f).toNat

/-- The range of a field holds. -/
def fieldInRange (p : Profile) (f : ProfileField) : Bool := f.low ≤ fieldRaw p f && fieldRaw p f ≤ f.high

/-- fitted mask -/
def fldMask : ProfileField := ⟨0x00, 1, false, 0, 255⟩
/-- reserve count -/
def fldReserve : ProfileField := ⟨0x01, 1, false, 1, 7⟩
/-- cells-fitted of a string -/
def fldCells (g : StringId) : ProfileField := ⟨0x02 + g.val, 1, false, 0, 24⟩
/-- cell high limit, mV -/
def fldCellHigh : ProfileField := ⟨0x0A, 2, false, 2400, 3000⟩
/-- hot start limit, 0.1 °C -/
def fldHotStart : ProfileField := ⟨0x0C, 2, true, 250, 650⟩
/-- hot abort limit, 0.1 °C -/
def fldHotAbort : ProfileField := ⟨0x0E, 2, true, 300, 700⟩
/-- temperature coefficient, mV/°C -/
def fldTempCoef : ProfileField := ⟨0x10, 1, false, 0, 6⟩
/-- match band, mV -/
def fldMatchBand : ProfileField := ⟨0x11, 2, false, 100, 2000⟩
/-- transfer time, ms -/
def fldTransfer : ProfileField := ⟨0x13, 2, false, 100, 2000⟩
/-- precharge time, s -/
def fldPrecharge : ProfileField := ⟨0x15, 2, false, 10, 300⟩
/-- ramp limit, min -/
def fldRamp : ProfileField := ⟨0x17, 1, false, 5, 240⟩
/-- hold interval, s -/
def fldHoldInterval : ProfileField := ⟨0x18, 2, false, 10, 600⟩
/-- match timeout, min -/
def fldMatchTimeout : ProfileField := ⟨0x1A, 1, false, 1, 30⟩
/-- rest time, min -/
def fldRest : ProfileField := ⟨0x1B, 2, false, 0, 1440⟩
/-- wake settle time, ms -/
def fldWakeSettle : ProfileField := ⟨0x1D, 2, false, 100, 2000⟩
/-- line idle time, s -/
def fldLineIdle : ProfileField := ⟨0x1F, 2, false, 10, 600⟩
/-- sweep window, 0.1 s -/
def fldWindow : ProfileField := ⟨0x21, 1, false, 5, 100⟩
/-- line recovery time, s -/
def fldRecovery : ProfileField := ⟨0x22, 2, false, 10, 600⟩
/-- qualify time, s -/
def fldQualify : ProfileField := ⟨0x24, 1, false, 1, 60⟩
/-- millilitres per pulse -/
def fldPulse : ProfileField := ⟨0x25, 1, false, 1, 50⟩
/-- dry time, s -/
def fldDry : ProfileField := ⟨0x26, 1, false, 5, 120⟩
/-- stop time, s -/
def fldStop : ProfileField := ⟨0x27, 1, false, 2, 60⟩
/-- fill limit, min -/
def fldFill : ProfileField := ⟨0x28, 1, false, 1, 30⟩
/-- verify delay, s -/
def fldVerify : ProfileField := ⟨0x29, 2, false, 10, 600⟩
/-- wake timer, min -/
def fldWake : ProfileField := ⟨0x2B, 2, false, 0, 1440⟩
/-- flags -/
def fldFlags : ProfileField := ⟨0x2D, 1, false, 0, 255⟩

/-- The fitted mask. -/
def fittedMask (p : Profile) : StringMask := profileByte p 0x00

/-- The string is fitted. -/
def isFitted (p : Profile) (g : StringId) : Bool := hasString (fittedMask p) g

/-- The number of fitted strings. -/
def fittedCount (p : Profile) : Nat := (stringsOf (fittedMask p)).length

/-- A string's cells-fitted as a block reads it (R52, R179). -/
def cellsFitted (p : Profile) (g : StringId) : Nat := fieldNat p (fldCells g)

/-- WATER_ON_GENERATOR. -/
def waterOnGenerator (p : Profile) : Bool := (profileByte p 0x2D).getLsbD 0
/-- WATER_ON_LEAN. -/
def waterOnLean (p : Profile) : Bool := (profileByte p 0x2D).getLsbD 1
/-- SUPPLY_WAKE. -/
def supplyWakeFlag (p : Profile) : Bool := (profileByte p 0x2D).getLsbD 2

/-- The confirmed flag (R180). -/
def isConfirmed (p : Profile) : Bool := profileByte p 0x3F == 0x01

/-- The profile with one byte replaced. -/
def putProfileByte (p : Profile) (k : Nat) (v : Byte) : Profile :=
  { bytes := if h : k < 64 then p.bytes.set k v h else p.bytes }

/-- The profile with its confirmed flag set or cleared. -/
def putConfirmed (p : Profile) (b : Bool) : Profile := putProfileByte p 0x3F (if b then 0x01 else 0x00)

/-! ## The profile check (R179) -/

/-- The fields of the profile in the order of the check, each with what is also required of it. -/
def profileChecks (p : Profile) : List (ProfileField × Bool) :=
  [(fldMask, fittedMask p != 0), (fldReserve, fieldRaw p fldReserve < fittedCount p)]
  ++ allStrings.map (fun g => (fldCells g, !isFitted p g || 1 ≤ fieldRaw p (fldCells g)))
  ++ [(fldCellHigh, true), (fldHotStart, fieldRaw p fldHotStart ≤ fieldRaw p fldHotAbort), (fldHotAbort, true),
      (fldTempCoef, true), (fldMatchBand, true), (fldTransfer, true), (fldPrecharge, true), (fldRamp, true),
      (fldHoldInterval, true), (fldMatchTimeout, true), (fldRest, true), (fldWakeSettle, true),
      (fldLineIdle, true), (fldWindow, true), (fldRecovery, true), (fldQualify, true), (fldPulse, true),
      (fldDry, true), (fldStop, true), (fldFill, true), (fldVerify, true), (fldWake, true),
      (fldFlags, profileByte p 0x2D &&& 0xF8 == 0)]

/-- The offset of the first field that fails the check, if one does. -/
def profileReject (p : Profile) : Option Nat :=
  ((profileChecks p).find? fun x => !(fieldInRange p x.1 && x.2)).map fun x => x.1.offset

end Sys2Proof.Machine
end

