-- ==== Sys2Proof/Machine/Flags.lean ====
section
/-! DEFINITION. The flags: event status bits and their capture (R182 to R188), and the sticky flags of cell and
string records (sections 11.5 and 11.6). -/

namespace Sys2Proof.Machine

/-! ## Events -/

/-- The bit of an event (chapter 10). -/
def Event.bit : Event → Nat
  | .powerOn => 0
  | .pinReset => 1
  | .settled => 2
  | .selectorFault => 3
  | .stranded => 4
  | .cellFlag => 5
  | .lineFault => 6
  | .lineRecovered => 7
  | .resLow => 8
  | .resEmpty => 9
  | .waterFault => 10
  | .supplyChange => 11
  | .portError => 12
  | .profileReject => 13
  | .controlRefused => 14
  | .standDownDone => 15

/-- The status mask of an event. -/
def Event.mask (ev : Event) : BitVec 16 := 1#16 <<< ev.bit

/-- The event is captured: its enable is set, or it is one that is captured always (R182). -/
def Alert.captures (a : Alert) (ev : Event) : Bool :=
  ev == .powerOn || ev == .pinReset || a.enables.getLsbD ev.bit

/-- ALERT# follows its two conditions (R187). -/
def Alert.refresh (a : Alert) : Alert := { a with asserted := a.status != 0 && a.holdoff.isNone }

/-- An event is handed to the alert unit (R182). -/
def Alert.capture (a : Alert) (ev : Event) : Alert :=
  if a.captures ev then Alert.refresh { a with status := a.status ||| ev.mask } else a

/-- Status bits are cleared (R183). -/
def Alert.clearBits (a : Alert) (m : BitVec 16) : Alert := Alert.refresh { a with status := a.status &&& ~~~ m }

/-- The holdoff timer starts, or starts again, for the time the word holds (R188). -/
def Alert.startHoldoff (a : Alert) : Alert :=
  Alert.refresh { a with holdoff := some (10 * a.holdoffWord.toNat) }

/-- The holdoff timer ends (R188). -/
def Alert.endHoldoff (a : Alert) : Alert := Alert.refresh { a with holdoff := none }

/-- A byte of the status word in its place; `high` is the byte at 0x0013. -/
def statusMask (high : Bool) (v : Byte) : BitVec 16 := if high then v ++ (0 : Byte) else (0 : Byte) ++ v

/-- A byte of a word replaced. -/
def putHalfByte (high : Bool) (v : Byte) (w : BitVec 16) : BitVec 16 :=
  if high then v ++ w.extractLsb' 0 8 else w.extractLsb' 8 8 ++ v

/-! ## Sticky flags -/

/-- HIGH_V_SEEN. -/
def cfHighV : Byte := 0x01
/-- HOT_SEEN. -/
def cfHot : Byte := 0x02
/-- LEVEL_LOW_SEEN. -/
def cfLevelLow : Byte := 0x04
/-- PROBE_FAULT_SEEN. -/
def cfProbeFault : Byte := 0x08
/-- SENSOR_LOST. -/
def cfLost : Byte := 0x10
/-- DRY_AFTER_WATER. -/
def cfDry : Byte := 0x20

/-- SELECTOR_FAULT, of a string. -/
def sfSelector : Byte := 0x01
/-- STRANDED. -/
def sfStranded : Byte := 0x02
/-- VOLUME_CAP. -/
def sfVolumeCap : Byte := 0x04
/-- SHORT_CENSUS. -/
def sfShortCensus : Byte := 0x08
/-- LOW_BEFORE_EQ. -/
def sfLowBeforeEq : Byte := 0x10

/-- The cell's sensor is lost (R71). -/
def Cell.lost (x : Cell) : Bool := x.flags &&& cfLost != 0

/-- A cell record with sticky flags set. -/
def Cell.setFlags (x : Cell) (f : Byte) : Cell := { x with flags := x.flags ||| f }

/-- Setting these flags takes one of them from clear to set (R69). -/
def Cell.gains (x : Cell) (f : Byte) : Bool := f &&& ~~~ x.flags != 0

/-- The flags a reading shows (R68). -/
def readingFlags (p : Profile) (volts : Nat) (temp : Int) (level : Level) : Byte :=
  (if fieldRead p fldCellHigh < volts then cfHighV else 0)
    ||| (if fieldRead p fldHotAbort < temp then cfHot else 0)
    ||| (if level = .below then cfLevelLow else 0)
    ||| (if level = .probeFault then cfProbeFault else 0)

/-- A string record with a sticky flag set. -/
def StringRec.setFlag (x : StringRec) (f : Byte) : StringRec := { x with flags := x.flags ||| f }

end Sys2Proof.Machine
end

