-- ==== Sys2Proof/Machine/Operands.lean ====
section
/-! DEFINITION. The operand forms: the fields of an order body and their ranges (R4 to R7, section 11.4), and the
readings of a sample (R84, R85). -/

namespace Sys2Proof.Machine

/-! ## Order bodies -/

/-- A body byte by its offset within the slot, 1 to 31. -/
def bodyByte (s : Slot) (off : Nat) : Byte := s.body[off - 1]?.getD 0

/-- A two-byte body field. -/
def bodyHalf (s : Slot) (off : Nat) : Nat := (bodyByte s off).toNat + 256 * (bodyByte s (off + 1)).toNat

/-- The kind code. -/
def orderCode (s : Slot) : Nat := (bodyByte s 1).toNat

/-- The kind, for the kinds a round carries out. -/
def orderKind (s : Slot) : Option Kind :=
  match orderCode s with
  | 1 => some .survey
  | 2 => some .equalise
  | 3 => some .water
  | 4 => some .giveBack
  | _ => none

/-- The order is a CLEAR. -/
def isClear (s : Slot) : Bool := orderCode s == 5

/-- The class is URGENT. -/
def isUrgent (s : Slot) : Bool := bodyByte s 2 == 1

/-- The string mask. -/
def orderMask (s : Slot) : StringMask := bodyByte s 3

/-- The start-by time in minutes. -/
def startBy (s : Slot) : Nat := bodyHalf s 4

/-- A flag of a body byte. -/
def bodyFlag (s : Slot) (off bit : Nat) : Bool := (bodyByte s off).getLsbD bit

/-- RECOUNT, of a SURVEY. -/
def isRecount (s : Slot) : Bool := orderKind s == some .survey && bodyFlag s 6 0

/-- The sweep count of a SURVEY. -/
def sweepCount (s : Slot) : Nat := (bodyByte s 7).toNat

/-- The sweep limit of a RECOUNT survey: 2 to 4 (R80). -/
def sweepLimit (s : Slot) : Nat := max 2 (min 4 (sweepCount s))

/-- The per-cell target at 25 °C of an EQUALISE, mV. -/
def perCellTarget (s : Slot) : Nat := bodyHalf s 6
/-- The current limit of an EQUALISE, 0.1 A. -/
def currentLimit (s : Slot) : Nat := bodyHalf s 8
/-- The min hold, minutes. -/
def minHold (s : Slot) : Nat := (bodyByte s 10).toNat
/-- The max hold, minutes. -/
def maxHold (s : Slot) : Nat := bodyHalf s 11
/-- The voltage settle band, mV. -/
def voltBand (s : Slot) : Nat := (bodyByte s 13).toNat
/-- The gravity settle band, gravity × 1000. -/
def gravityBand (s : Slot) : Nat := (bodyByte s 14).toNat
/-- The settle count. -/
def settleCount (s : Slot) : Nat := (bodyByte s 15).toNat
/-- ALLOW_GENERATOR. -/
def allowGenerator (s : Slot) : Bool := bodyFlag s 16 0
/-- THEN_WATER, of an EQUALISE. -/
def thenWater (s : Slot) : Bool := orderKind s == some .equalise && bodyFlag s 16 1
/-- The charge cap, Ah; 0 is none. -/
def chargeCap (s : Slot) : Nat := bodyHalf s 17

/-- ONLY_IF_LOW of a WATER, or WATER_ONLY_IF_LOW of an EQUALISE (R150). -/
def onlyIfLow (s : Slot) : Bool := if orderKind s = some .water then bodyFlag s 8 0 else bodyFlag s 16 2

/-- VERIFY of a WATER, or WATER_VERIFY of an EQUALISE (R150). -/
def verifyFlag (s : Slot) : Bool := if orderKind s = some .water then bodyFlag s 8 1 else bodyFlag s 16 3

/-- The volume cap per string, mL: a WATER's, or the chained one of an EQUALISE (R150). -/
def volumeCap (s : Slot) : Nat := if orderKind s = some .water then bodyHalf s 6 else bodyHalf s 19

/-- CELL_FLAGS in a CLEAR's scope. -/
def scopeCells (s : Slot) : Bool := bodyFlag s 6 0
/-- STRING_FLAGS in a CLEAR's scope. -/
def scopeStrings (s : Slot) : Bool := bodyFlag s 6 1
/-- WATER_FAULT in a CLEAR's scope. -/
def scopeWater (s : Slot) : Bool := bodyFlag s 6 2
/-- LINE_COUNT in a CLEAR's scope. -/
def scopeLine (s : Slot) : Bool := bodyFlag s 6 3

/-- The cell positions of a CLEAR; the empty set names all (R5). -/
def clearPositions (s : Slot) : PosSet :=
  let set : PosSet := bodyByte s 9 ++ bodyByte s 8 ++ bodyByte s 7
  if set = 0 then BitVec.allOnes 24 else set

/-- A value lies in a range, both ends included. -/
def within (low high x : Nat) : Bool := low ≤ x && x ≤ high

/-- The common fields lie in their ranges (R4). -/
def commonParamsOk (s : Slot) : Bool := within 0 1 (bodyByte s 2).toNat && within 0 1440 (startBy s)

/-- The EQUALISE fields lie in their ranges (R6). -/
def equaliseParamsOk (s : Slot) : Bool :=
  within 2300 2550 (perCellTarget s) && within 10 1000 (currentLimit s) && within 0 240 (minHold s)
    && (within 30 720 (maxHold s) && minHold s ≤ maxHold s) && within 1 50 (voltBand s)
    && within 1 20 (gravityBand s) && within 3 12 (settleCount s) && bodyByte s 16 &&& 0xF0 == 0
    && within 0 2000 (chargeCap s) && (!bodyFlag s 16 1 || within 100 20000 (bodyHalf s 19))

/-- Every field lies in its range (R4 to R7). A 24-bit position set names no position above 23 (section 11.4). -/
def paramsOk (s : Slot) : Bool :=
  commonParamsOk s && match orderCode s with
  | 1 => bodyByte s 6 &&& 0xFE == 0 && within 1 8 (sweepCount s)
  | 2 => equaliseParamsOk s
  | 3 => within 100 20000 (bodyHalf s 6) && bodyByte s 8 &&& 0xFC == 0
  | 5 => bodyByte s 6 != 0 && bodyByte s 6 &&& 0xF0 == 0
  | _ => true

/-- The mask is empty where it may not be (R4). -/
def maskMissing (s : Slot) : Bool :=
  orderMask s == 0 && (!isClear s || scopeCells s || scopeStrings s)

/-- The order needs the confirmed profile, the selectors and the census (R8). -/
def needsStrings (s : Slot) : Bool :=
  orderKind s == some .equalise || orderKind s == some .water || orderKind s == some .giveBack

/-! ## Samples -/

/-- The line values of a sample. -/
def linesOf (r : Readings) : Lines :=
  { chgFault := r.chgFault, resLow := r.resLow, resEmpty := r.resEmpty, mainsOk := r.mainsOk, genRun := r.genRun }

/-- A sample of the readings, clamped to their ranges (R85). -/
def sampleOf (now : Clock) (r : Readings) : Sample :=
  { time := now, eqVolts := min 70000 r.eqVolts, eqAmps := (max 0 (min 2000 r.eqAmps)).toNat,
    loadVolts := min 70000 r.loadVolts, lines := linesOf r }

/-- What stands in for the lines while no sample is held (R86). -/
def edgeReference : Lines :=
  { chgFault := true, resLow := false, resEmpty := false, mainsOk := false, genRun := false }

/-- The lines of the latest sample, or what stands in for them (R86). -/
def latestLines (x : Option Sample) : Lines :=
  match x with
  | some y => y.lines
  | none => edgeReference

/-- The load bus voltage of the latest sample (R86). -/
def latestLoad (x : Option Sample) : Nat :=
  match x with
  | some y => y.loadVolts
  | none => 0

end Sys2Proof.Machine
end

