-- ==== Sys2Proof/Machine/Ops.lean ====
section
/-! DEFINITION. The named operations over the blocks: reading and changing records, handing over work and events,
the clock events, the selector unit, the charger port, the valves and the census. -/

namespace Sys2Proof.Machine

/-! ## Records -/

/-- The round of a context. -/
def Engine.ctx (e : Engine) (c : CtxId) : Option Round := e.ctxs.get c

/-- A context takes a round, or becomes free. -/
def Engine.setCtx (e : Engine) (c : CtxId) (r : Option Round) : Engine := { e with ctxs := e.ctxs.set c r }

/-- A context's round is replaced. -/
def Engine.putRound (e : Engine) (c : CtxId) (r : Round) : Engine := e.setCtx c (some r)

/-- Something done with the round a context carries out for a slot; nothing if it no longer does (R34). -/
def Engine.withRound (e : Engine) (c : CtxId) (n : SlotId) (f : Round → Engine → Engine) : Engine :=
  match e.ctx c with
  | some r => if r.slot = n then f r e else e
  | none => e

/-- A slot of the board. -/
def Engine.slot (e : Engine) (n : SlotId) : Slot := e.board.slots.get n

/-- A slot is replaced. -/
def Engine.putSlot (e : Engine) (n : SlotId) (x : Slot) : Engine :=
  { e with board := { e.board with slots := e.board.slots.set n x } }

/-- A string's record. -/
def Engine.str (e : Engine) (g : StringId) : StringRec := e.strings.get g

/-- A string's record is replaced. -/
def Engine.putStr (e : Engine) (g : StringId) (x : StringRec) : Engine := { e with strings := e.strings.set g x }

/-- A string's record is changed. -/
def Engine.modStr (e : Engine) (g : StringId) (f : StringRec → StringRec) : Engine := e.putStr g (f (e.str g))

/-- A cell's record. -/
def Engine.cell (e : Engine) (g : StringId) (q : Position) : Cell := (e.cells.get g).get q

/-- A cell's record is replaced. -/
def Engine.putCell (e : Engine) (g : StringId) (q : Position) (x : Cell) : Engine :=
  { e with cells := e.cells.set g.val ((e.cells.get g).set q x) }

/-- A string's owner in the claims table. -/
def Engine.owner (e : Engine) (g : StringId) : Option CtxId := e.claims.strings.get g

/-- Work is handed over, to be done before what is waiting already (log 15). -/
def Engine.hand (e : Engine) (ws : List Work) : Engine := { e with agenda := ws ++ e.agenda }

/-- An event is handed to the alert unit. -/
def Engine.raise (e : Engine) (ev : Event) : Engine := { e with raised := e.raised ++ [ev] }

/-- Some context is busy. -/
def Engine.anyBusy (e : Engine) : Bool := allCtxs.any fun c => (e.ctx c).isSome

/-- The lowest free context (R16). -/
def Engine.freeCtx (e : Engine) : Option CtxId := allCtxs.find? fun c => (e.ctx c).isNone

/-! ## Clock events (R94) -/

/-- The clock has reached a value: it lies less than half the clock's range behind (log 19). -/
def reached (deadline now : Clock) : Bool := (now - deadline).toNat < 2 ^ 31

/-- A value of the clock some seconds after another. -/
def after (start : Clock) (seconds : Nat) : Clock := start + BitVec.ofNat 32 seconds

/-- A clock event that is due now, or that the coming advance makes due and that is taken before the sample of that
advance (R94, log 7). None where it is not due. -/
def Engine.due (e : Engine) (active : Bool) (deadline : Clock) : Option Engine :=
  if reached deadline e.clock then some e
  else if active && !e.advanceTaken && reached deadline (e.clock + 1) then
    some { e with clock := e.clock + 1, advanceTaken := true }
  else none

/-! ## Rounds -/

/-- A round enters a phase (R28). -/
def Round.enter (r : Round) (ph : Phase) (now : Clock) : Round := { r with phase := ph, phaseStart := now }

/-- The per-string outcomes of the present part of a round (R28). -/
def Round.putOutcome (r : Round) (g : StringId) (o : Outcome) : Round :=
  if r.inWatering && r.kind == .equalise then { r with watering := r.watering.set g o }
  else { r with primary := r.primary.set g o }

/-- Outcomes for every string of a mask. -/
def Round.putOutcomes (r : Round) (m : StringMask) (o : Outcome) : Round :=
  (stringsOf m).foldl (fun r g => r.putOutcome g o) r

/-- A round takes a site cause: the first is recorded and ends the order, a later one is counted (R35, R36). -/
def Round.takeCause (r : Round) (x : Cause) : Round :=
  if r.firstCause.isSome then { r with laterCauses := bump 255 r.laterCauses }
  else { (r.putOutcomes r.remaining .notReached) with firstCause := some x, remaining := 0 }

/-- A round counts a completion of its sweeps (R26). -/
def Round.countSweep (r : Round) (ok : Bool) : Round :=
  { r with sweepsIssued := bump 255 r.sweepsIssued,
           sweepsFailed := if ok then r.sweepsFailed else bump 255 r.sweepsFailed }

/-- The per-string fields at their starting values, for a string that is begun (R26, R117, R152). -/
def Round.startString (r : Round) (g : StringId) (census : Nat) : Round :=
  { r with cur := some g, remaining := dropString r.remaining g, pendingOutcome := none, holdElapsed := 0,
           settledCells := 0, censusCount := census, chargeSum := 0, waterVolume := 0, perCell := 0,
           leftLoad := false, enteredRamp := false, enteredPrime := false, compTemp := 0, prechargeTarget := 0,
           holdDue := false, stranding := false, backToOpen := false, coasting := false }

/-- The charge field, in mAh (R92). -/
def Round.charge (r : Round) : Nat := r.chargeSum / 36

/-! ## Census and cells (chapter 4) -/

/-- A string's census count: the size of its census set (R76). -/
def StringRec.censusCount (x : StringRec) : Nat := posCount x.censusSet

/-- The census cells of a string (R76). -/
def Engine.censusCells (e : Engine) (g : StringId) : List Position := positionsOf (e.str g).censusSet

/-- A string's census takes a state and a set. -/
def Engine.putCensus (e : Engine) (g : StringId) (s : Census) (set : PosSet) : Engine :=
  e.modStr g fun x => { x with census := s, censusSet := set }

/-- A string's census becomes UNKNOWN, and the board is told (R76, R77, R82). -/
def Engine.loseCensus (e : Engine) (g : StringId) : Engine :=
  (e.putCensus g .unknown 0).hand [.censusLost g]

/-- A census cell of the string passes a test. -/
def Engine.anyCensusCell (e : Engine) (g : StringId) (f : Cell → Bool) : Bool :=
  (e.censusCells g).any fun q => f (e.cell g q)

/-- Sticky flags are set in the record of a cell; CELL_FLAG is handed if one of them was clear (R69). -/
def Engine.flagCell (e : Engine) (g : StringId) (q : Position) (f : Byte) : Engine :=
  let x := e.cell g q
  let e := e.putCell g q (x.setFlags f)
  if x.gains f then e.raise .cellFlag else e

/-- DRY_AFTER_WATER is set in the records of some positions, as one update: CELL_FLAG is handed once if any of them
was clear (R72). -/
def Engine.flagDry (e : Engine) (g : StringId) (set : List Position) : Engine :=
  let gains := set.any fun q => (e.cell g q).gains cfDry
  let e := set.foldl (fun e q => e.putCell g q ((e.cell g q).setFlags cfDry)) e
  if gains then e.raise .cellFlag else e

/-- A cell that missed a sweep (R70, R71). -/
def Engine.missCell (e : Engine) (g : StringId) (q : Position) : Engine :=
  let x := e.cell g q
  let e := e.putCell g q { x with misses := bump 3 x.misses }
  if x.misses = 2 then e.flagCell g q cfLost else e

/-- A sweep's miss accounting (R70). -/
def Engine.missAccounting (e : Engine) (missing : AddrSet) : Engine :=
  allStrings.foldl (fun e g =>
    if (e.str g).census = .established then
      (positionsOf (missing.get g &&& (e.str g).censusSet)).foldl (fun e q => e.missCell g q) e
    else e) e

/-- HOLD entry of a string: settle streaks and references are cleared (R74). -/
def Engine.holdEntry (e : Engine) (g : StringId) : Engine :=
  let fresh := (e.cells.get g).map fun x => { x with streak := 0, refKind := .none, reference := 0 }
  { e with cells := e.cells.set g fresh }

/-- The settle streak and reference after a HOLD reading (R73). -/
def Cell.settle (x : Cell) (voltBand gravityBand : Nat) (volts gravity : Half) : Cell :=
  let byGravity := gravity != 0
  let kind : RefKind := if byGravity then .gravity else .voltage
  let value := if byGravity then gravity else volts
  let band := if byGravity then gravityBand else voltBand
  let near := value.toNat ≤ x.reference.toNat + band && x.reference.toNat ≤ value.toNat + band
  { x with
    streak := if x.refKind = .none then x.streak
      else if x.refKind = kind && near then bump 15 x.streak else 0,
    refKind := kind, reference := value }

/-- The settled census cells of a string (R74). -/
def Engine.settledCells (e : Engine) (g : StringId) (count : Nat) : Nat :=
  ((e.censusCells g).filter fun q => count ≤ (e.cell g q).streak).length

/-- The mean of the census cells' temperatures, rounded toward zero (R119, log 27). -/
def Engine.meanTemp (e : Engine) (g : StringId) : Int :=
  if e.censusCells g = [] then Config.meanOfNone g
  else Int.tdiv ((e.censusCells g).map fun q => (e.cell g q).temperature.toInt).sum (e.censusCells g).length

/-- The compensated per-cell setpoint (R119). -/
def perCellSetpoint (p : Profile) (s : Slot) (comp : Int) : Nat :=
  (max 2250 (min 2600 ((perCellTarget s : Int) - Int.tdiv (fieldRead p fldTempCoef * (comp - 250)) 10))).toNat

/-! ## The selector unit (chapter 6) -/

/-- The connected count (R100). -/
def Engine.connected (e : Engine) (p : Profile) : Nat :=
  (allStrings.filter fun g => isFitted p g && (e.str g).sel == .atLoad).length

/-- How a transfer request is answered (R99, R100). -/
inductive Answer where
  | taken
  | refused
  | reserve
  deriving DecidableEq, Repr

/-- The transfer begins (R101). -/
def Engine.beginTransfer (e : Engine) (p : Profile) (g : StringId) (s : SelState) (d : Drive)
    (origin : Option Contact) : Engine :=
  e.modStr g fun x =>
    { x with sel := s, commanded := d, origin := origin, timer := some (fieldNat p fldTransfer) }

/-- Another string is commanded EQUALISE (R99). -/
def Engine.otherAtEq (e : Engine) (g : StringId) : Bool :=
  allStrings.any fun k => k != g && (e.str k).commanded == .equalise

/-- A transfer is requested by a context: LOAD→OPEN or EQUALISE→OPEN, by where the string stands, OPEN→EQUALISE or
OPEN→LOAD (R99). `fromLoad` tells the two transfers to OPEN apart. -/
def Engine.requestTransfer (e : Engine) (p : Profile) (c : CtxId) (g : StringId) (fromLoad : Bool) (d : Drive) :
    Answer × Engine :=
  if e.owner g != some c || !isFitted p g then (.refused, e)
  else match d, (e.str g).sel, fromLoad with
  | .opened, .atLoad, true =>
    if fieldNat p fldReserve < e.connected p then (.taken, e.beginTransfer p g .goingOpen .opened (some .load))
    else (.reserve, e)
  | .opened, .atEq, false => (.taken, e.beginTransfer p g .goingOpen .opened (some .equalise))
  | .equalise, .atOpen, _ =>
    if e.otherAtEq g then (.refused, e) else (.taken, e.beginTransfer p g .goingEq .equalise (some .opened))
  | .load, .atOpen, _ => (.taken, e.beginTransfer p g .goingLoad .load (some .opened))
  | _, _, _ => (.refused, e)

/-- The phases that take RESERVE_LOST (R106). -/
def Phase.takesReserveLost : Phase → Bool
  | .isolating | .precharge | .connecting | .ramp | .hold => true
  | _ => false

/-- A site cause for every busy context that passes a test. -/
def Engine.causeTo (e : Engine) (f : Round → Bool) (x : Cause) : List Work :=
  allCtxs.filterMap fun c => match e.ctx c with
  | some r => if f r then some (.cause c r.slot x) else none
  | none => none

/-- A site cause for the holder of a claim. -/
def Engine.causeToHolder (e : Engine) (holder : Option CtxId) (x : Cause) : List Work :=
  match holder with
  | some c => match e.ctx c with
    | some r => [.cause c r.slot x]
    | none => []
  | none => []

/-- The fault notice for the context that holds a string's claim (R104). -/
def Engine.noticeFor (e : Engine) (g : StringId) : List Work :=
  match e.owner g with
  | some c => match e.ctx c with
    | some r => [.faultNotice c r.slot g]
    | none => []
  | none => []

/-- A record in FAULTED: steps 1 to 3 of R104. -/
def StringRec.fault (x : StringRec) : StringRec :=
  { x with timer := none, origin := none, commanded := .load, sel := .faulted, stranded := false,
           flags := x.flags ||| sfSelector }

/-- A string enters FAULTED (R104), and the reserve notice of R106 is judged. -/
def Engine.faultString (e : Engine) (p : Profile) (g : StringId) : Engine :=
  let fell := isFitted p g && (e.str g).sel == .atLoad
  let e := (e.modStr g StringRec.fault).raise .selectorFault
  let lost := fell && decide (e.connected p < fieldNat p fldReserve)
  e.hand ((if lost then e.causeTo (fun r => r.phase.takesReserveLost && r.cur.isSome) .reserveLost else [])
    ++ e.noticeFor g)

/-- The position a selector state stands for at rest. -/
def SelState.home : SelState → Option Contact
  | .atLoad => some .load
  | .atOpen => some .opened
  | .atEq => some .equalise
  | _ => none

/-- The target of a transfer under way: what is observed there, the state it ends in and the position (R102). -/
def SelState.target : SelState → Option (Contact × SelState × Drive)
  | .goingOpen => some (.opened, .atOpen, .opened)
  | .goingEq => some (.equalise, .atEq, .equalise)
  | .goingLoad => some (.load, .atLoad, .load)
  | _ => none

/-- A transfer completes (R102); reaching LOAD ends the stranded condition (R108). -/
def Engine.completeTransfer (e : Engine) (g : StringId) (s : SelState) (d : Drive) : Engine :=
  let e := e.modStr g fun x =>
    { x with sel := s, timer := none, origin := none, stranded := if d = .load then false else x.stranded }
  match e.owner g with
  | some c => match e.ctx c with
    | some r => e.hand [.transferDone c r.slot g d]
    | none => e
  | none => e

/-- A feedback change is taken (R97, R102, R105). Until the settling reading it makes no fault at LOAD (R114). -/
def Engine.feedback (e : Engine) (p : Profile) (g : StringId) (shown : Contact) : Engine :=
  let x := e.str g
  let e := e.modStr g fun x => { x with observed := shown }
  if !isFitted p g then e
  else match x.sel.target with
  | some (goal, s, d) =>
    if shown = goal then e.completeTransfer g s d
    else if shown = .between || some shown = x.origin then e
    else e.faultString p g
  | none =>
    if x.sel = .faulted then e
    else if x.sel = .atLoad && e.settling.isSome then e
    else e.faultString p g

/-- A context asks for a string to be stranded (R107). -/
def Engine.strand (e : Engine) (g : StringId) : Engine :=
  if (e.str g).sel = .atOpen then
    (e.modStr g fun x => { x with stranded := true, flags := x.flags ||| sfStranded, inRound := false }).raise
      .stranded
  else e

/-- A CLEAR with STRING_FLAGS, for one string (R109). -/
def StringRec.clear (x : StringRec) : StringRec :=
  if x.sel = .faulted then
    if x.observed = .load then { x with flags := 0, sel := .atLoad }
    else { x with flags := x.flags &&& sfSelector }
  else { x with flags := 0 }

/-! ## The charger port (chapter 7) -/

/-- ENABLE, from the context given (R115). -/
def Engine.chargerEnable (e : Engine) (c : CtxId) (volts limit : Nat) : Engine :=
  if e.claims.charger = some c then
    { e with charger := { enable := true, setpoint := min 70000 volts, limit := limit } }
  else e

/-- SET, from the context given (R115). -/
def Engine.chargerSet (e : Engine) (c : CtxId) (volts : Nat) : Engine :=
  if e.claims.charger = some c then { e with charger := { e.charger with setpoint := min 70000 volts } } else e

/-- DISABLE, from the context given (R115). -/
def Engine.chargerDisable (e : Engine) (c : CtxId) : Engine :=
  if e.claims.charger = some c then { e with charger := Charger.blank } else e

/-! ## The valves and the pump (chapter 8) -/

/-- A string is rested (R146, R151; log 19). -/
def StringRec.rested (x : StringRec) (now : Clock) : Bool := x.restUntil.toNat ≤ now.toNat

/-- The path takes an OPEN (R146). -/
def Engine.canOpen (e : Engine) (c : CtxId) (g : StringId) : Bool :=
  e.claims.water == some c && e.water.state == .busy && e.water.valve.isNone && e.water.coast.isNone
    && e.owner g == some c && (e.str g).sel == .atLoad && (e.str g).rested e.clock

/-- A valve opens and the pump starts (R146). -/
def Engine.openValve (e : Engine) (g : StringId) : Engine :=
  { e with water := { e.water with valve := some g, pump := true } }

/-- A valve that is open closes, after the pump has stopped, and the coast begins (R146, R148). -/
def Engine.closeValve (e : Engine) (p : Profile) : Engine :=
  match e.water.valve with
  | some g => { e with water := { e.water with valve := none, pump := false,
                                               coast := some (g, after e.clock (fieldNat p fldStop)) } }
  | none => e

/-- The path enters FAULTED (R145). The board is told of the change of state (R142). -/
def Engine.faultPath (e : Engine) (p : Profile) (x : PathCause) : Engine :=
  let e := e.closeValve p
  ({ e with water := { e.water with state := .faulted, cause := x } } : Engine).raise .waterFault

/-- The supply states in which watering is allowed (R162). -/
def waterAllowed (p : Profile) : Supply → Bool
  | .rich => true
  | .generator => waterOnGenerator p
  | .lean => waterOnLean p

/-- The supply states in which an EQUALISE may run (R15, R134). -/
def equaliseAllowed (s : Slot) : Supply → Bool
  | .rich => true
  | .generator => allowGenerator s
  | .lean => false

end Sys2Proof.Machine
end

