-- ==== Sys2Proof/Machine/Line.lean ====
section
/-! DEFINITION. The cell line: requests and withdrawals, sweeps, frames, faults and recovery (chapter 3). -/

namespace Sys2Proof.Machine

/-- The cell line is changed. -/
def Engine.modLine (e : Engine) (f : Line → Line) : Engine := { e with line := f e.line }

/-! ## Sets of sensor addresses -/

/-- A set has no address. -/
def AddrSet.none (a : AddrSet) : Bool := a.toList.all fun s => s == 0

/-- An address is in the set. -/
def AddrSet.has (a : AddrSet) (g : StringId) (q : Position) : Bool := hasPos (a.get g) q

/-- The set with an address added. -/
def AddrSet.add (a : AddrSet) (g : StringId) (q : Position) : AddrSet := a.set g (a.get g ||| onePos q)

/-- The set less another. -/
def AddrSet.less (a b : AddrSet) : AddrSet := Vector.ofFn fun g => a.get g &&& ~~~ b.get g

/-- What a string contributes to the expected set of a sweep that names it (R52). -/
def Engine.contribution (e : Engine) (p : Profile) (g : StringId) : PosSet :=
  if (e.str g).census = .established then (e.str g).censusSet else firstPositions (cellsFitted p g)

/-- The expected set of a sweep (R52). -/
def Engine.expectedSet (e : Engine) (p : Profile) (m : StringMask) : AddrSet :=
  Vector.ofFn fun g => if hasString m g then e.contribution p g else 0

/-! ## Waking and faults -/

/-- The line enters WAKING and drives the wake pattern (R45). -/
def Engine.enterWaking (e : Engine) : Engine :=
  e.modLine fun l => { l with state := .waking, sending := .wakePattern, settle := Option.none }

/-- A FAILED completion of a request (R47, R59). -/
def failedCompletion (q : Request) (replied : AddrSet) : Work := .completion q false replied AddrSet.empty

/-- The FAILED completions of a fault entry: the sweep in progress, unless withdrawn, then the list (R59). -/
def Line.failAll (l : Line) : List Work :=
  (match l.sweep with
    | some w => if w.withdrawn then [] else [failedCompletion w.req w.replied]
    | Option.none => [])
  ++ l.list.map fun q => failedCompletion q AddrSet.empty

/-- The line enters FAULTED (R59). -/
def Engine.faultLine (e : Engine) (p : Profile) (x : LineCause) : Engine :=
  let out := e.line.failAll
  let e := e.modLine fun l =>
    { l with state := .faulted, cause := x, sending := .nothing, idle := Option.none, settle := Option.none,
             window := Option.none, trial := false, recovery := some (fieldNat p fldRecovery),
             sweep := Option.none, list := [], faultCount := bump 255 l.faultCount }
  (e.raise .lineFault).hand out

/-! ## Sweeps -/

/-- The level the next guard check finds: what the state's script says, or else a free value (R50, log 13). -/
def Line.guardLevel (l : Line) : LineLevel :=
  match l.guardScript with
  | x :: _ => x
  | [] => Config.guardLevel l.guardReads

/-- The level is used up (log 13). -/
def Line.useGuard (l : Line) : Line :=
  match l.guardScript with
  | _ :: xs => { l with guardScript := xs }
  | [] => { l with guardReads := l.guardReads + 1 }

/-- The guard check finds the line recessive: the CALL is sent, a start mark before it (R50, R51, R198). -/
def Line.sendCall (l : Line) (q : Request) (expected : AddrSet) : Line :=
  { l with stuck := 0, nextTag := l.nextTag + 1, sending := .call (frameLevels (callFrame l.nextTag q.mask)),
           sweep := some { req := q, withdrawn := false, tag := l.nextTag, expected := expected,
                           replied := AddrSet.empty, windowOpen := false } }

/-- The request at the head of the list becomes the sweep in progress, and the guard check is made (R49, R50). Where the
check fails, no other sweep starts until the stuck count has been raised and judged (log 38). -/
def Engine.startSweep (e : Engine) (p : Profile) : Engine :=
  match e.line.list with
  | [] => e
  | q :: rest =>
    let expected := e.expectedSet p q.mask
    let level := e.line.guardLevel
    let e := e.modLine fun l => { l.useGuard with list := rest, idle := Option.none }
    match level with
    | .recessive => e.modLine fun l => l.sendCall q expected
    | .dominant =>
      (e.modLine fun l => { l with finishing := true }).hand [failedCompletion q AddrSet.empty, .guardFailed]

/-- The line is free to start a sweep (R49). -/
def Line.free (l : Line) : Bool :=
  l.state == .active && l.sweep.isNone && l.sending == .nothing && !l.finishing

/-- The next sweep starts if the list is not empty; otherwise the idle timer starts (R46, R49, R53). -/
def Engine.nextSweep (e : Engine) (p : Profile) : Engine :=
  if e.line.free then
    if e.line.list = [] then e.modLine fun l => { l with idle := some (fieldNat p fldLineIdle) }
    else e.startSweep p
  else e

/-- A context requests a sweep (R47). -/
def Engine.requestSweep (e : Engine) (p : Profile) (c : CtxId) (n : SlotId) (m : StringMask) (u : Purpose) :
    Engine :=
  let q : Request := { ctx := c, slot := n, mask := m, purpose := u }
  match e.line.state with
  | .off | .faulted => e.hand [failedCompletion q AddrSet.empty]
  | .asleep => (e.modLine fun l => { l with list := l.list ++ [q] }).enterWaking
  | .waking => e.modLine fun l => { l with list := l.list ++ [q] }
  | .active =>
    let e := e.modLine fun l => { l with list := l.list ++ [q], idle := Option.none }
    if e.line.free then e.startSweep p else e

/-- A sweep in progress whose request is withdrawn, if it is the context's (R48). -/
def Sweep.withdraw (w : Sweep) (c : CtxId) : Sweep := if w.req.ctx = c then { w with withdrawn := true } else w

/-- A context withdraws its sweep request (R48). -/
def Engine.withdrawSweep (e : Engine) (c : CtxId) : Engine :=
  e.modLine fun l =>
    { l with list := l.list.filter fun q => q.ctx != c, sweep := l.sweep.map fun w => w.withdraw c }

/-- A context has a request listed or being served as its own (R47). -/
def Engine.hasRequest (e : Engine) (c : CtxId) : Bool :=
  (e.line.list.any fun q => q.ctx == c)
    || (match e.line.sweep with
        | some w => w.req.ctx == c && !w.withdrawn
        | Option.none => false)

/-- What follows a failed guard check: the stuck count, a fault, or the next sweep, which may be one that was requested in
answer to the FAILED completion (R49, R50, R62; log 38). -/
def Engine.afterGuardFailed (e : Engine) (p : Profile) : Engine :=
  let trial := e.line.trial
  let e := e.modLine fun l => { l with finishing := false, stuck := bump 4 l.stuck }
  if trial || e.line.stuck = 4 then e.faultLine p .stuck else e.nextSweep p

/-- Steps 3 and 4 of a completion (R53, R54). -/
def Engine.afterSweep (e : Engine) (p : Profile) (silent : Bool) : Engine :=
  (e.modLine fun l =>
    { l with finishing := false, silent := if silent then bump 4 l.silent else l.silent }).nextSweep p

/-- The sweep in progress ends its window with nothing that faults the line: steps 1 and 2 of R53. -/
def Engine.deliverSweep (e : Engine) (w : Sweep) (silent : Bool) : Engine :=
  let missing := w.expected.less w.replied
  let e := if e.line.trial && !w.replied.none then e.raise .lineRecovered else e
  let e := e.modLine fun l =>
    { l with sweep := Option.none, window := Option.none, finishing := true,
             trial := if w.replied.none then l.trial else false }
  (e.missAccounting missing).hand
    ((if w.withdrawn then [] else [.completion w.req true w.replied missing]) ++ [.sweepDone silent])

/-- The sweep in progress ends, at its time or early (R53, R54, R62). -/
def Engine.endSweep (e : Engine) (p : Profile) (w : Sweep) : Engine :=
  let silent := w.replied.none && !w.expected.none
  if w.replied.none && e.line.trial || silent && e.line.silent = 3 then
    (e.modLine fun l => { l with silent := if silent then bump 4 l.silent else l.silent }).faultLine p .silent
  else e.deliverSweep w silent

/-! ## Frames arriving -/

/-- The receiver takes frames (R55); that the part is ACTIVE is seen to where the frame arrives. -/
def Line.receives (l : Line) : Bool :=
  (l.state == .asleep || l.state == .waking || l.state == .active) && l.sending == .nothing

/-- A bad frame (R56). -/
def Engine.badFrame (e : Engine) (p : Profile) : Engine :=
  let e := e.modLine fun l => { l with errors := bump 32 l.errors }
  if e.line.errors = 32 then e.faultLine p .degraded else e

/-- A stray frame (R57, R63). -/
def Engine.strayFrame (e : Engine) : Engine := e.modLine fun l => { l with strayCount := bump 65535 l.strayCount }

/-- The position a reading comes from, where its source address has one. -/
def Reading.pos (r : Reading) : Option Position := if h : r.position < 24 then some ⟨r.position, h⟩ else Option.none

/-- The level of a reading. -/
def Reading.levelOf (r : Reading) : Level :=
  match r.level.toNat with
  | 0 => .above
  | 1 => .below
  | 2 => .probeFault
  | _ => .noProbe

/-- The sweep in progress awaits this reading (R57). -/
def Sweep.awaits (w : Sweep) (r : Reading) (q : Position) : Bool :=
  w.windowOpen && r.tag == w.tag && w.expected.has r.stringId q && !w.replied.has r.stringId q

/-- The measured fields of a reading in a cell record (R67). -/
def Cell.store (x : Cell) (r : Reading) (now : Clock) : Cell :=
  { x with voltage := r.voltage, temperature := r.temperature, gravity := r.gravity, level := r.levelOf,
           misses := 0, lastTime := now }

/-- A good reply is stored (R67 to R69), and a HOLD reply that names its context moves the settle streak (R73). -/
def Engine.storeReading (e : Engine) (p : Profile) (w : Sweep) (r : Reading) (q : Position) : Engine :=
  let g := r.stringId
  let x := (e.cell g q).store r e.clock
  let x := if w.req.purpose == .hold && !w.withdrawn then
      x.settle (voltBand (e.slot w.req.slot)) (gravityBand (e.slot w.req.slot)) r.voltage r.gravity
    else x
  (e.putCell g q x).flagCell g q (readingFlags p r.voltage.toNat r.temperature.toInt r.levelOf)

/-- A good reply (R58). -/
def Engine.goodReply (e : Engine) (p : Profile) (w : Sweep) (r : Reading) (q : Position) : Engine :=
  let w' := { w with replied := w.replied.add r.stringId q }
  let e := (e.storeReading p w r q).modLine fun l =>
    { l with sweep := some w', errors := l.errors - 1, silent := 0 }
  if w'.replied = w'.expected then e.endSweep p w' else e

/-- A sound frame: a good reply or a stray (R57, R58). -/
def Engine.soundFrame (e : Engine) (p : Profile) (r : Reading) : Engine :=
  match e.line.sweep, r.pos with
  | some w, some q => if w.awaits r q then e.goodReply p w r q else e.strayFrame
  | _, _ => e.strayFrame

/-- A frame that ends or is cut is classified (R55 to R58). -/
def Engine.classify (e : Engine) (p : Profile) (bytes : List Byte) : Engine :=
  match readingOf bytes with
  | some r => if r.inRange then e.soundFrame p r else e.badFrame p
  | Option.none => e.badFrame p

/-- A frame ends or is cut: it is classified if the receiver still takes frames, and discarded if not (R55). -/
def Engine.received (e : Engine) (p : Profile) (bytes : List Byte) : Engine :=
  if e.line.receives then e.classify p bytes else e

/-- Levels arrive on the line: the frames they bring are taken one after another, each with everything that follows
from it (R55, R198; log 25). -/
def Engine.frame (e : Engine) (levels : List LineLevel) : Engine :=
  e.hand ((receiveFrames levels).map .received)

/-! ## The line's own events -/

/-- The wake pattern has been sent (R45). -/
def Engine.wakePatternSent (e : Engine) (p : Profile) : Engine :=
  if e.line.state = .waking ∧ e.line.sending = .wakePattern then
    e.modLine fun l => { l with sending := .nothing, settle := some (fieldNat p fldWakeSettle) }
  else e

/-- The wake settle timer expires (R45). -/
def Engine.wakeSettleEnd (e : Engine) (p : Profile) : Engine :=
  if e.line.settle.isSome then
    (e.modLine fun l => { l with settle := Option.none, state := .active, errors := 0 }).nextSweep p
  else e

/-- The idle timer expires, and a SLEEP frame is sent, a start mark before it (R46, R198). -/
def Engine.idleExpiry (e : Engine) : Engine :=
  if e.line.idle.isSome then
    e.modLine fun l => { l with idle := Option.none, sending := .sleep (frameLevels sleepFrame) }
  else e

/-- The SLEEP frame has been sent (R46). -/
def Engine.sleepSent (e : Engine) : Engine :=
  match e.line.sending with
  | .sleep _ =>
    let e := e.modLine fun l => { l with sending := .nothing, state := .asleep }
    if e.line.list = [] then e else e.enterWaking
  | _ => e

/-- The last bit of the CALL has been sent: the sweep window opens (R51). -/
def Engine.callSent (e : Engine) (p : Profile) : Engine :=
  match e.line.sending with
  | .call _ => e.modLine fun l =>
      { l with sending := .nothing, window := some (fieldNat p fldWindow),
               sweep := l.sweep.map fun w => { w with windowOpen := true } }
  | _ => e

/-- The sweep window's time runs out (R53). -/
def Engine.windowEnd (e : Engine) (p : Profile) : Engine :=
  match e.line.window, e.line.sweep with
  | some _, some w => e.endSweep p w
  | _, _ => e

/-- The recovery timer expires (R61). -/
def Engine.recoveryExpiry (e : Engine) : Engine :=
  if e.line.recovery.isSome then
    (e.modLine fun l =>
      { l with recovery := Option.none, errors := 0, stuck := 0, silent := 0, trial := true }).enterWaking.hand
      [.scan]
  else e

/-- A passing confirmation, or the leaving of a pin reset with the flag set, moves an OFF line to ASLEEP (R44). -/
def Engine.wakeFromOff (e : Engine) : Engine :=
  if e.line.state = .off then e.modLine fun l => { l with state := .asleep } else e

end Sys2Proof.Machine
end

