-- ==== Sys2Proof/Machine/Board.lean ====
section
/-! DEFINITION. The order board: the run queue, dispatch, favour, settlement and mark requests (chapter 1), and the
claims table (section 2.2). -/

namespace Sys2Proof.Machine

/-- The board is changed. -/
def Engine.modBoard (e : Engine) (f : Board → Board) : Engine := { e with board := f e.board }

/-- A slot is changed. -/
def Engine.modSlot (e : Engine) (n : SlotId) (f : Slot → Slot) : Engine := e.putSlot n (f (e.slot n))

/-! ## Queue and favour -/

/-- The run queue with a slot entered in its class (R12). -/
def Engine.enterQueue (e : Engine) (n : SlotId) : Engine :=
  let urgent := fun m => isUrgent (e.slot m)
  let q := e.board.queue
  e.modBoard fun b =>
    { b with queue := if isUrgent (e.slot n) then q.takeWhile urgent ++ n :: q.dropWhile urgent else q ++ [n] }

/-- The entry nearest the front with a count of 8 becomes favoured, if no order is (R17). -/
def Engine.refavour (e : Engine) : Engine :=
  match e.board.favoured with
  | some _ => e
  | none => e.modBoard fun b => { b with favoured := b.queue.find? fun m => (e.slot m).passOver == 8 }

/-- An entry leaves the run queue, and its favour ends (R13, R16, R17). -/
def Engine.leaveQueue (e : Engine) (n : SlotId) : Engine :=
  (e.modBoard fun b =>
    { b with queue := b.queue.filter fun m => m != n,
             favoured := if b.favoured = some n then none else b.favoured }).refavour

/-- The entries that stood before a started order are counted as passed over (R17). -/
def Engine.countPassed (e : Engine) (ms : List SlotId) : Engine :=
  (ms.foldl (fun e m => e.modSlot m fun x => { x with passOver := bump 8 x.passOver }) e).refavour

/-! ## Needs and resources -/

/-- Every mask string of an order passes a test. -/
def everyString (s : Slot) (f : StringId → Bool) : Bool := (stringsOf (orderMask s)).all f

/-- The line is not FAULTED. -/
def Engine.lineUp (e : Engine) : Bool := e.line.state != .faulted

/-- The charger can be claimed (R15). -/
def Engine.chargerFree (e : Engine) : Bool := e.claims.charger.isNone && !(latestLines e.latest).chgFault

/-- A string may be equalised or watered (R15). -/
def Engine.stringReady (e : Engine) (g : StringId) : Bool :=
  (e.owner g).isNone && (e.str g).sel != .faulted && !(e.str g).stranded && (e.str g).census == .established

/-- A string may be returned (R15). -/
def Engine.stringReturnable (e : Engine) (g : StringId) : Bool :=
  (e.owner g).isNone && (e.str g).stranded && (e.str g).census == .established

/-- An order's needs are all met (R15). -/
def Engine.needsMet (e : Engine) (p : Profile) (n : SlotId) : Bool :=
  let s := e.slot n
  e.freeCtx.isSome && match orderKind s with
  | some .survey => e.lineUp && (!isRecount s || everyString s fun g => (e.owner g).isNone)
  | some .equalise =>
    e.chargerFree && everyString s e.stringReady && equaliseAllowed s e.supply.state && e.lineUp
      && (!thenWater s || e.water.state == .ready)
  | some .water =>
    e.water.state == .ready && everyString s e.stringReady && waterAllowed p e.supply.state
      && ((!onlyIfLow s && !verifyFlag s) || e.lineUp)
  | some .giveBack => e.chargerFree && everyString s e.stringReturnable
  | none => false

/-- The order needs the charger (R16, R18). -/
def usesCharger (s : Slot) : Bool := orderKind s == some .equalise || orderKind s == some .giveBack

/-- The order needs the water path (R16, R18). -/
def usesWater (s : Slot) : Bool := orderKind s == some .water || thenWater s

/-- The strings an order claims (R16, R18). -/
def claimedStrings (s : Slot) : StringMask :=
  if orderKind s = some .survey && !isRecount s then 0 else orderMask s

/-- Two orders' resources are disjoint (R18). -/
def disjointOrders (s t : Slot) : Bool :=
  !(usesCharger s && usesCharger t) && !(usesWater s && usesWater t) && claimedStrings s &&& claimedStrings t == 0

/-- The favour rule allows the entry to start (R18). -/
def Engine.favourAllows (e : Engine) (n : SlotId) : Bool :=
  match e.board.favoured with
  | none => true
  | some f =>
    f == n || !(e.board.queue.takeWhile fun m => m != n).contains f || disjointOrders (e.slot f) (e.slot n)

/-! ## Dispatch -/

/-- A context takes the claims an order calls for; claiming the path makes it BUSY (R16, R143). -/
def Engine.takeClaims (e : Engine) (c : CtxId) (s : Slot) : Engine :=
  let water := usesWater s
  { e with
    claims := { charger := if usesCharger s then some c else e.claims.charger,
                water := if water then some c else e.claims.water,
                strings := Vector.ofFn fun g => if hasString (claimedStrings s) g then some c else e.owner g },
    water := if water && e.water.state == .ready then { e.water with state := .busy, idle := 0 } else e.water }

/-- The lists a slot's strings are given at dispatch: one entry for each mask string (R16, R29). -/
def maskOutcomes (m : StringMask) (o : Outcome) : Vector Outcome 8 :=
  Vector.ofFn fun g => if hasString m g then o else .notInMask

/-- A context's round as it is initialised at dispatch (R29). -/
def freshRound (s : Slot) (n : SlotId) (k : Kind) (now : Clock) : Round :=
  { slot := n, kind := k, phase := .idle, cur := none,
    remaining := if k = .survey then 0 else orderMask s,
    pendingOutcome := none, phaseStart := now, holdElapsed := 0, settledCells := 0, censusCount := 0,
    chargeSum := 0, waterVolume := 0, sweepsIssued := 0, sweepsFailed := 0, firstCause := none, laterCauses := 0,
    perCell := 0, primary := maskOutcomes (orderMask s) .inProgress,
    watering := if thenWater s then maskOutcomes (orderMask s) .notReached else Outcome.noStrings,
    inWatering := k == .water, leftLoad := false, enteredRamp := false, enteredPrime := false, compTemp := 0,
    prechargeTarget := 0, holdTimer := now, holdDue := false, stranding := false, backToOpen := false,
    lastPulse := now, coasting := false }

/-- A slot as dispatch leaves it (R16). -/
def Slot.dispatch (s : Slot) (now : Clock) : Slot :=
  { s with mark := .running, deadline := none,
           result := { s.result with started := now, primary := maskOutcomes (orderMask s) .inProgress } }

/-- A queued order starts in a context (R16, R17, R29). The pass-over counts are raised before the round begins, so that
a round that ends as it begins finds them raised (log 16, the model's choice). -/
def Engine.dispatch (e : Engine) (c : CtxId) (n : SlotId) (k : Kind) : Engine :=
  let s := e.slot n
  let before := e.board.queue.takeWhile fun m => m != n
  let e := (e.takeClaims c s).putRound c (freshRound s n k e.clock)
  ((e.modSlot n fun x => x.dispatch e.clock).leaveQueue n).countPassed before

/-- One entry of a dispatch scan's walk (R14). The round that starts begins before the walk goes on, and so does all
that its beginning sets going. A path that is claimed changes state, which runs a scan after the walk (R142, log 16). -/
def Engine.walkOne (e : Engine) (p : Profile) (n : SlotId) (rest : List SlotId) : Engine :=
  match e.freeCtx, orderKind (e.slot n) with
  | some c, some k =>
    if (e.slot n).mark = .queued ∧ e.needsMet p n ∧ e.favourAllows n then
      (e.dispatch c n k).hand
        ([.beginRound c n, .walk rest] ++ if usesWater (e.slot n) then [.scan] else [])
    else e.hand [.walk rest]
  | _, _ => e.hand [.walk rest]

/-! ## Settlements -/

/-- A slot as a queued settlement leaves it (R13). -/
def Slot.settleQueued (s : Slot) (o : OrderOutcome) (x : Cause) (now : Clock) : Slot :=
  { s with
    mark := .settled, passOver := 0, deadline := none,
    result := { s.result with
      outcome := o, first := .cause x, later := 0, late := false, settled := now,
      primary := maskOutcomes (orderMask s) .notReached,
      watering := if thenWater s then maskOutcomes (orderMask s) .notReached else Outcome.noStrings } }

/-- A queued order is settled (R13), but for the dispatch scan that follows. -/
def Engine.settleQueued (e : Engine) (n : SlotId) (o : OrderOutcome) (x : Cause) : Engine :=
  ((e.modSlot n fun s => s.settleQueued o x e.clock).leaveQueue n).raise .settled

/-- The ends that count as equalised (R31, R38, R39). -/
def Outcome.isEqEnd : Outcome → Bool
  | .eqSettled | .eqTimed | .eqChargeCap => true
  | _ => false

/-- The ends in the success set of a watering (R39, R161). -/
def Outcome.isWaterEnd : Outcome → Bool
  | .watered | .wateredUnverified | .notNeeded => true
  | _ => false

/-- Every mask string's outcomes are in the success set of the order's kind (R39). -/
def roundDone (s : Slot) (r : Round) : Bool :=
  everyString s fun g =>
    let o := r.primary.get g
    match r.kind with
    | .survey => o == .surveyed || o == .censusEstablished
    | .equalise => o.isEqEnd && (!thenWater s || (r.watering.get g).isWaterEnd)
    | .water => o.isWaterEnd
    | .giveBack => o == .returned

/-- The order outcome of a finished round (R39). -/
def roundOutcome (s : Slot) (r : Round) : OrderOutcome :=
  match r.firstCause with
  | some .withdrawn | some .standDown => .withdrawn
  | some _ => .aborted
  | none => if roundDone s r then .done else .partly

/-- A slot as settlement leaves it (R21, R40). -/
def Slot.settle (s : Slot) (r : Round) (now : Clock) : Slot :=
  { s with
    mark := .settled, withdrawNote := false,
    result := { s.result with
      outcome := roundOutcome s r,
      first := match r.firstCause with
        | some x => .cause x
        | none => .none,
      later := r.laterCauses, late := false, settled := now, primary := r.primary, watering := r.watering } }

/-- The string claims without a context's. -/
def Claims.dropCtx (k : Claims) (c : CtxId) : Claims :=
  { charger := if k.charger = some c then none else k.charger,
    water := if k.water = some c then none else k.water,
    strings := k.strings.map fun o => if o = some c then none else o }

/-- The path when its claim is released (R31, R143). -/
def Engine.releasePath (e : Engine) (p : Profile) (c : CtxId) : Engine :=
  if e.claims.water = some c then
    let e := e.closeValve p
    { e with water := { e.water with state := if e.water.state = .busy then .ready else e.water.state } }
  else e

/-- A context is freed: the claims it still holds are released, the charger disabled and the path closed first, and
its sweep request is withdrawn (R21, R31, R48). -/
def Engine.freeContext (e : Engine) (p : Profile) (c : CtxId) : Engine :=
  let e := ((e.chargerDisable c).releasePath p c).withdrawSweep c
  { e.setCtx c none with claims := e.claims.dropCtx c }

/-- Standing down ends when the last busy context is freed (R24). -/
def Engine.endStandDown (e : Engine) : Engine :=
  if e.board.standingDown && !e.anyBusy then
    (e.modBoard fun b => { b with standingDown := false }).raise .standDownDone
  else e

/-- A round has finished, and its order is settled (R21, R38). -/
def Engine.finish (e : Engine) (p : Profile) (c : CtxId) (r : Round) : Engine :=
  let e := (e.modSlot r.slot fun s => s.settle r e.clock).raise .settled
  ((e.freeContext p c).endStandDown).hand [.scan]

/-- A context releases its claim on a string (R31). -/
def Engine.releaseString (e : Engine) (g : StringId) : Engine :=
  { e with claims := { e.claims with strings := e.claims.strings.set g none } }

/-- A context releases the charger, disabled first (R31). -/
def Engine.releaseCharger (e : Engine) (c : CtxId) : Engine :=
  let e := e.chargerDisable c
  if e.claims.charger = some c then { e with claims := { e.claims with charger := none } } else e

/-! ## Mark requests -/

/-- Why a POST is refused, if it is (R8). -/
def Engine.refusal (e : Engine) (p : Profile) (s : Slot) : Option Reason :=
  if !(within 1 5 (orderCode s)) then some .unknownKind
  else if e.board.standingDown then some .standingDown
  else if needsStrings s && !isConfirmed p then some .profileUnconfirmed
  else if maskMissing s then some .emptyMask
  else if !paramsOk s then some .paramRange
  else if !everyString s (isFitted p) then some .stringNotFitted
  else if needsStrings s && !everyString s (fun g => (e.str g).sel != .faulted) then some .stringFaulted
  else if needsStrings s && !everyString s (fun g => (e.str g).census == .established) then some .noCensus
  else if orderKind s == some .giveBack && !everyString s (fun g => (e.str g).stranded) then some .notStranded
  else none

/-- A slot as a refusal leaves it (R9). -/
def Slot.refuse (s : Slot) (x : Reason) (now : Clock) : Slot :=
  { s with mark := .refused, result := { Result.blank with first := .reason x, accepted := now } }

/-- A slot as acceptance leaves it (R10). -/
def Slot.queue (s : Slot) (seq : Nat) (now : Clock) : Slot :=
  { s with mark := .queued, result := { Result.blank with accepted := now }, seq := some seq, passOver := 0,
           withdrawNote := false,
           deadline := if startBy s = 0 then none else some (after now (60 * startBy s)) }

/-- A slot as an executed CLEAR leaves it (R11). -/
def Slot.clearDone (s : Slot) (now : Clock) : Slot :=
  { s with mark := .settled,
           result := { Result.blank with outcome := .done, accepted := now, started := now, settled := now } }

/-- CLEAR with CELL_FLAGS, for one string (R75). -/
def Engine.clearCells (e : Engine) (p : Profile) (s : Slot) (g : StringId) : Engine :=
  (positionsOf (clearPositions s &&& firstPositions (cellsFitted p g))).foldl
    (fun e q => e.putCell g q { e.cell g q with flags := 0, misses := 0 }) e

/-- CLEAR with WATER_FAULT (R145). -/
def Engine.clearWater (e : Engine) : Engine :=
  if e.water.state = .faulted then
    { e with water := { e.water with
        state := if (latestLines e.latest).resEmpty then .empty
          else if e.claims.water.isSome then .busy else .ready,
        idle := 0 } }
  else e

/-- The scopes of a CLEAR, in the order of R11. -/
def Engine.clearScopes (e : Engine) (p : Profile) (s : Slot) : Engine :=
  let e := if scopeCells s then (stringsOf (orderMask s)).foldl (fun e g => e.clearCells p s g) e else e
  let e := if scopeStrings s then
    (stringsOf (orderMask s)).foldl (fun e g => e.modStr g StringRec.clear) e else e
  let e := if scopeWater s then e.clearWater else e
  if scopeLine s then e.modLine fun l => { l with faultCount := 0, strayCount := 0 } else e

/-- A CLEAR is executed (R11). -/
def Engine.executeClear (e : Engine) (p : Profile) (n : SlotId) : Engine :=
  (((e.clearScopes p (e.slot n)).modSlot n fun s => s.clearDone e.clock).raise .settled).hand [.scan]

/-- An order is queued (R10). -/
def Engine.queueOrder (e : Engine) (n : SlotId) : Engine :=
  let e := e.modSlot n fun s => s.queue e.board.nextSeq e.clock
  ((e.modBoard fun b => { b with nextSeq := b.nextSeq + 1 }).enterQueue n).hand [.scan]

/-- A POST is taken on a FREE slot (R8). -/
def Engine.post (e : Engine) (p : Profile) (n : SlotId) : Engine :=
  match e.refusal p (e.slot n) with
  | some x => e.modSlot n fun s => s.refuse x e.clock
  | none => if isClear (e.slot n) then e.executeClear p n else e.queueOrder n

/-- A RELEASE is taken (R22). -/
def Engine.release (e : Engine) (n : SlotId) : Engine := e.modSlot n fun s => { s with mark := .free, seq := none }

/-- The context that carries out a slot's order. -/
def Engine.ctxOf (e : Engine) (n : SlotId) : Option CtxId :=
  allCtxs.find? fun c => match e.ctx c with
    | some r => r.slot == n
    | none => false

/-- A WITHDRAW is taken on a RUNNING slot (R23). -/
def Engine.withdrawRunning (e : Engine) (n : SlotId) : Engine :=
  if (e.slot n).withdrawNote then e
  else match e.ctxOf n with
  | some c => (e.modSlot n fun s => { s with withdrawNote := true }).hand [.cause c n .withdrawn]
  | none => e.modSlot n fun s => { s with withdrawNote := true }

/-- A late withdraw (R23). -/
def Engine.lateWithdraw (e : Engine) (n : SlotId) : Engine :=
  e.modSlot n fun s => { s with result := { s.result with late := true } }

/-- What a mark request does, if its value is taken on the slot's stored mark (R2). -/
def Engine.markRequest (e : Engine) (p : Profile) (n : SlotId) (v : Byte) : Option Engine :=
  match v.toNat, (e.slot n).mark with
  | 1, .free => some (e.post p n)
  | 0, .settled | 0, .refused => some (e.release n)
  | 6, .queued => some ((e.settleQueued n .withdrawn .withdrawn).hand [.scan])
  | 6, .running => some (e.withdrawRunning n)
  | 6, .settled => some (e.lateWithdraw n)
  | _, _ => none

/-! ## Expiry, census loss and stand-down -/

/-- A start-by deadline is reached (R19). -/
def Engine.startByExpiry (e : Engine) (active : Bool) (n : SlotId) : Engine :=
  match (e.slot n).mark, (e.slot n).deadline with
  | .queued, some d =>
    match e.due active d with
    | some e => (e.settleQueued n .expired .expired).hand [.scan]
    | none => e
  | _, _ => e

/-- The first queued order that a lost census ends (R20). -/
def Engine.needsCensus (e : Engine) (g : StringId) : Option SlotId :=
  e.board.queue.find? fun m => needsStrings (e.slot m) && hasString (orderMask (e.slot m)) g

/-- A string's census is reported lost: the queued orders that need it are settled one after another (R20, log 17).
-/
def Engine.censusReport (e : Engine) (g : StringId) : Engine :=
  match e.needsCensus g with
  | some m => (e.settleQueued m .aborted .censusLost).hand [.scan, .censusLost g]
  | none => e

/-- A stand-down goes on: the queued orders one after another, then the causes (R24, log 17). -/
def Engine.standDownNext (e : Engine) : Engine :=
  match e.board.queue with
  | m :: _ => (e.settleQueued m .withdrawn .standDown).hand [.scan, .standDownNext]
  | [] => e.hand (e.causeTo (fun _ => true) .standDown ++ [.standDownCheck])

/-- The causes of a stand-down have been delivered (R24). -/
def Engine.standDownCheck (e : Engine) : Engine :=
  if e.anyBusy then e.modBoard fun b => { b with standingDown := true } else e.raise .standDownDone

end Sys2Proof.Machine
end

