-- ==== Sys2Proof/Machine/Rounds.lean ====
section
/-! DEFINITION. The rounds: SURVEY orders (section 4.7), EQUALISE and RETURN orders (chapter 7), watering
(chapter 8), and the beginning and closing of strings (section 2.3). -/

namespace Sys2Proof.Machine

/-! ## Closing a string of the primary part (R132, R140) -/

/-- The string keeps its claim as it closes: it is to be watered (R31). -/
def keepsClaim (s : Slot) (o : Outcome) : Bool := thenWater s && o.isEqEnd

/-- The history of an EQUALISE string that has left LOAD (R132, log 26). -/
def StringRec.equalised (x : StringRec) (p : Profile) (o : Outcome) (ramped : Bool) (now : Clock) : StringRec :=
  let rest := after now (60 * fieldNat p fldRest)
  { x with lastEqTime := now, lastEqOutcome := some o, inRound := false,
           eqCount := if ramped then bump 65535 x.eqCount else x.eqCount,
           restUntil := if ramped then rest else x.restUntil,
           restArmed := if ramped then fieldNat p fldRest != 0 && rest != 0 else x.restArmed }

/-- The history of a RETURN string that has entered SWEEPING (R140). -/
def StringRec.returned (x : StringRec) (o : Outcome) (now : Clock) : StringRec :=
  { x with lastEqTime := now, lastEqOutcome := some o, inRound := false }

/-- The history a closing string of the primary part leaves (R132, R140). -/
def Engine.primaryHistory (e : Engine) (p : Profile) (r : Round) (g : StringId) (o : Outcome) : Engine :=
  if r.leftLoad then
    if r.kind = .giveBack then e.modStr g fun x => x.returned o e.clock
    else e.modStr g fun x => x.equalised p o r.enteredRamp e.clock
  else e

/-- The current string of a primary part closes. The outcome it closes with stands as the pending one until the next
string begins (R26, R32, R33). The next string is begun before the scan of the claim's release runs (R31; log 16, the
model's choice). -/
def Engine.closePrimary (e : Engine) (p : Profile) (c : CtxId) (r : Round) (g : StringId) (o : Outcome) : Engine :=
  let keep := keepsClaim (e.slot r.slot) o
  let e := (e.primaryHistory p r g o).putRound c { r.putOutcome g o with cur := none, perCell := 0, pendingOutcome := some o }
  if keep then e.hand [.advance c r.slot] else (e.releaseString g).hand [.advance c r.slot, .scan]

/-- The current string closes with an outcome that stands for its end (R32). -/
def Engine.closeCurrent (e : Engine) (p : Profile) (c : CtxId) (r : Round) (o : Outcome) : Engine :=
  match r.cur with
  | some g => e.closePrimary p c r g o
  | none => e

/-- A string of a RETURN, or of a stranding return, is stranded and closes STRANDED (R107, R129, R138, R139). -/
def Engine.closeStranded (e : Engine) (p : Profile) (c : CtxId) (r : Round) : Engine :=
  match r.cur with
  | some g => (e.strand g).closePrimary p c r g .stranded
  | none => e

/-- The charger is disabled and the string closes SELECTOR_FAULT (R131). -/
def Engine.closeFaulted (e : Engine) (p : Profile) (c : CtxId) (r : Round) : Engine :=
  ((e.withdrawSweep c).chargerDisable c).closeCurrent p c r .selectorFault

/-! ## The steps of an EQUALISE or RETURN string (sections 7.4 to 7.10) -/

/-- A context asks for a transfer of its current string. -/
def Engine.askTransfer (e : Engine) (p : Profile) (c : CtxId) (r : Round) (fromLoad : Bool) (d : Drive) :
    Answer × Engine :=
  match r.cur with
  | some g => e.requestTransfer p c g fromLoad d
  | none => (.refused, e)

/-- The last step of a return: OPEN→LOAD, in RETURNING (R128, R130). -/
def Engine.toLoad (e : Engine) (p : Profile) (c : CtxId) (r : Round) : Engine :=
  let e := e.chargerDisable c
  match e.askTransfer p c r false .load with
  | (.taken, e) => e.putRound c r
  | (_, e) => e.closeFaulted p c r

/-- The return from OPEN (R130). -/
def Engine.returnFromOpen (e : Engine) (p : Profile) (c : CtxId) (r : Round) : Engine :=
  e.toLoad p c (r.enter .returning e.clock)

/-- RETURNING is entered from MATCH: EQUALISE→OPEN is requested (R128, R129). -/
def Engine.enterReturning (e : Engine) (p : Profile) (c : CtxId) (r : Round) (stranding : Bool) : Engine :=
  let r := { r.enter .returning e.clock with stranding := stranding }
  match e.askTransfer p c r false .opened with
  | (.taken, e) => e.putRound c r
  | (_, e) => e.closeFaulted p c r

/-- A stranding return: the charger is disabled, and RETURNING is entered to strand the string (R127, R129). -/
def Engine.strandingReturn (e : Engine) (p : Profile) (c : CtxId) (r : Round) : Engine :=
  (e.chargerDisable c).enterReturning p c r true

/-- MATCH is entered (R127). -/
def Engine.enterMatch (e : Engine) (c : CtxId) (r : Round) : Engine :=
  (((e.withdrawSweep c).putRound c { r.enter .matching e.clock with perCell := 0, holdDue := false })).chargerSet c
    (latestLoad e.latest)

/-- The work on the string ends with an outcome, and MATCH brings it back (R32, R127). -/
def Engine.endIntoMatch (e : Engine) (c : CtxId) (r : Round) (o : Outcome) : Engine :=
  e.enterMatch c { r with pendingOutcome := some o }

/-- ISOLATING is entered (R120). -/
def Engine.enterIsolating (e : Engine) (p : Profile) (c : CtxId) (r : Round) : Engine :=
  let r := r.enter .isolating e.clock
  match r.cur with
  | none => e
  | some g =>
    match e.requestTransfer p c g true .opened with
    | (.taken, e) =>
      (e.modStr g fun x => { x with inRound := true }).putRound c
        { r with prechargeTarget := latestLoad e.latest, leftLoad := true }
    | (.reserve, e) => e.closePrimary p c r g .skippedReserve
    | (.refused, e) => e.closePrimary p c r g .selectorFault

/-- The current limit of a round: the order's, or 10.0 A for a RETURN (R121, R139). -/
def chargeLimit (s : Slot) (r : Round) : Nat := if r.kind = .giveBack then 100 else currentLimit s

/-- PRECHARGE is entered (R121, R139). -/
def Engine.enterPrecharge (e : Engine) (c : CtxId) (r : Round) : Engine :=
  (e.putRound c (r.enter .precharge e.clock)).chargerEnable c r.prechargeTarget (chargeLimit (e.slot r.slot) r)

/-- A RETURN gives up its string: the charger is disabled and the string is stranded again (R139). -/
def Engine.giveUpReturn (e : Engine) (p : Profile) (c : CtxId) (r : Round) : Engine :=
  (e.chargerDisable c).closeStranded p c r

/-- CONNECTING is entered (R122, R139). -/
def Engine.enterConnecting (e : Engine) (p : Profile) (c : CtxId) (r : Round) : Engine :=
  let r := r.enter .connecting e.clock
  match e.askTransfer p c r false .equalise with
  | (.taken, e) => e.putRound c r
  | (_, e) =>
    if r.kind = .giveBack then e.giveUpReturn p c r
    else e.returnFromOpen p c { r with pendingOutcome := some .selectorFault }

/-- The setpoint of the current string: cells-fitted times the per-cell setpoint (R119). -/
def stringSetpoint (p : Profile) (r : Round) (perCell : Nat) : Nat :=
  match r.cur with
  | some g => cellsFitted p g * perCell
  | none => 0

/-- RAMP is entered (R123). -/
def Engine.enterRamp (e : Engine) (p : Profile) (c : CtxId) (r : Round) : Engine :=
  let v := perCellSetpoint p (e.slot r.slot) r.compTemp
  (e.putRound c { r.enter .ramp e.clock with perCell := v, enteredRamp := true }).chargerSet c
    (stringSetpoint p r v)

/-- The ramp threshold: the string setpoint less 20 mV for each cell of cells-fitted (R123). -/
def rampThreshold (p : Profile) (r : Round) : Nat := stringSetpoint p r r.perCell - stringSetpoint p r 20

/-- A sweep of the current string alone is requested. -/
def Engine.sweepCurrent (e : Engine) (p : Profile) (c : CtxId) (r : Round) (u : Purpose) : Engine :=
  match r.cur with
  | some g => e.requestSweep p c r.slot (oneString g) u
  | none => e

/-- HOLD is entered (R124, R74). -/
def Engine.enterHold (e : Engine) (p : Profile) (c : CtxId) (r : Round) : Engine :=
  let e := match r.cur with
    | some g => e.holdEntry g
    | none => e
  (e.putRound c
    { r.enter .hold e.clock with holdElapsed := 0, settledCells := 0, holdTimer := e.clock, holdDue := false
    }).sweepCurrent p c r .hold

/-- A due HOLD sweep is requested, unless one is under way (R124). -/
def Engine.dueHoldSweep (e : Engine) (p : Profile) (c : CtxId) (r : Round) : Engine :=
  if e.hasRequest c then e.putRound c { r with holdDue := true }
  else (e.putRound c { r with holdDue := false }).sweepCurrent p c r .hold

/-- The two limits of HOLD (R126). -/
def Engine.judgeHold (e : Engine) (c : CtxId) (r : Round) : Engine :=
  let s := e.slot r.slot
  if chargeCap s ≠ 0 ∧ 1000 * chargeCap s ≤ r.charge then e.endIntoMatch c r .eqChargeCap
  else if 60 * maxHold s ≤ r.holdElapsed then e.endIntoMatch c r .eqTimed
  else e.putRound c r

/-- Hold elapsed brought up to a time (R126). -/
def Round.holdUntil (r : Round) (now : Clock) : Round :=
  { r with holdElapsed := min 43200 (now - r.phaseStart).toNat }

/-! ## Beginning a string, and the end of the primary part (R117, R137, R138) -/

/-- An EQUALISE or RETURN context begins a string (R117, R138). -/
def Engine.beginString (e : Engine) (p : Profile) (c : CtxId) (r : Round) (g : StringId) : Engine :=
  let r := r.startString g (e.str g).censusCount
  if (e.str g).sel = .faulted then e.closePrimary p c r g .selectorFault
  else if r.kind = .giveBack then
    let r := { r.enter .sweeping e.clock with leftLoad := true }
    (e.putRound c r).sweepCurrent p c r .estimate
  else
    let r := r.enter .check e.clock
    (e.putRound c r).sweepCurrent p c r .check

/-! ## Watering (chapter 8) -/

/-- The history of a watered string (R160). -/
def StringRec.watered (x : StringRec) (volume : Nat) (now : Clock) : StringRec :=
  { x with lastWaterTime := now, lastFill := volume, waterCount := bump 65535 x.waterCount }

/-- The current string of a watering part closes (R160). The outcome it closes with stands as the pending one until the
next string begins (R26, R32, R33). The next string is chosen before the scan of a claim's release runs (R31; log 16, the
model's choice). -/
def Engine.closeWater (e : Engine) (c : CtxId) (r : Round) (o : Outcome) : Engine :=
  match r.cur with
  | none => e
  | some g =>
    let e := if r.enteredPrime then e.modStr g fun x => x.watered r.waterVolume e.clock else e
    let e := e.putRound c { r.putOutcome g o with cur := none, pendingOutcome := some o }
    if r.kind = .equalise then (e.releaseString g).hand [.advance c r.slot, .scan]
    else e.hand [.advance c r.slot]

/-- PRIME is entered (R154). -/
def Engine.enterPrime (e : Engine) (c : CtxId) (r : Round) : Engine :=
  let r := r.enter .prime e.clock
  match r.cur, e.water.state with
  | _, .empty => e.closeWater c (r.takeCause .reservoirEmpty) .reservoirEmpty
  | _, .faulted => e.closeWater c (r.takeCause .pumpFault) .siteAbort
  | some g, _ =>
    if e.canOpen c g then (e.openValve g).putRound c { r with enteredPrime := true }
    else e.closeWater c r .selectorFault
  | none, _ => e

/-- A watering context begins a string (R152). -/
def Engine.beginWater (e : Engine) (p : Profile) (c : CtxId) (r : Round) (g : StringId) : Engine :=
  let r := r.startString g (e.str g).censusCount
  if (e.str g).sel ≠ .atLoad then e.closeWater c r .selectorFault
  else if onlyIfLow (e.slot r.slot) then
    let r := r.enter .levelCheck e.clock
    (e.putRound c r).sweepCurrent p c r .level
  else e.enterPrime c r

/-- The next string of a watering part: the lowest remaining one that is rested (R151). -/
def Engine.restedString (e : Engine) (r : Round) : Option StringId :=
  allStrings.find? fun g => hasString r.remaining g && (e.str g).rested e.clock

/-- A watering context chooses its next string, or waits in REST_WAIT (R151). -/
def Engine.chooseWater (e : Engine) (p : Profile) (c : CtxId) (r : Round) : Engine :=
  match e.restedString r with
  | some g => e.beginWater p c r g
  | none => e.putRound c { r.enter .restWait e.clock with cur := none }

/-- The strings a chained watering works on (R137). -/
def equalisedStrings (r : Round) : StringMask := maskOf fun g => (r.primary.get g).isEqEnd

/-- The primary part of an EQUALISE or RETURN ends (R137, R140, R150). -/
def Engine.endPrimary (e : Engine) (p : Profile) (c : CtxId) (r : Round) : Engine :=
  if r.firstCause.isNone && thenWater (e.slot r.slot) && equalisedStrings r != 0 then
    let r := { r with inWatering := true, remaining := equalisedStrings r }
    let e := e.releaseCharger c
    if waterAllowed p e.supply.state then (e.hand [.scan]).chooseWater p c r
    else e.finish p c (r.takeCause .supplyLost)
  else e.finish p c r

/-- A string has closed, or a survey is over: the next string is begun, or the round ends (R32, R38). -/
def Engine.advance (e : Engine) (p : Profile) (c : CtxId) (r : Round) : Engine :=
  if r.kind = .survey then e.finish p c r
  else if r.inWatering then
    if r.firstCause.isSome || r.remaining == 0 then e.finish p c r else e.chooseWater p c r
  else
    match (if r.firstCause.isSome then none else lowestString r.remaining) with
    | some g => e.beginString p c r g
    | none => e.endPrimary p c r

/-! ## SURVEY (section 4.7) -/

/-- The strings of a survey that are still undecided (R81, R82). -/
def undecided (r : Round) : StringMask := maskOf fun g => r.primary.get g == .inProgress

/-- A RECOUNT survey enters CENSUS (R80). -/
def Engine.enterCensus (e : Engine) (p : Profile) (c : CtxId) (r : Round) : Engine :=
  let m := orderMask (e.slot r.slot)
  let e := (stringsOf m).foldl (fun e g => e.putCensus g .provisional 0) e
  (e.putRound c (r.enter .census e.clock)).requestSweep p c r.slot m .census

/-- A round begins in its context (R29, R79, R80, R117, R150). -/
def Engine.beginRound (e : Engine) (p : Profile) (c : CtxId) (r : Round) : Engine :=
  match r.kind with
  | .survey =>
    if isRecount (e.slot r.slot) then e.enterCensus p c r
    else (e.putRound c (r.enter .sweeping e.clock)).requestSweep p c r.slot (orderMask (e.slot r.slot)) .survey
  | .water => if r.remaining = 0 then e.finish p c r else e.chooseWater p c r
  | _ => e.advance p c r

/-- A survey ends on a site cause: its undecided strings close SITE_ABORT, and a RECOUNT loses their census (R35,
R82). -/
def Engine.abortSurvey (e : Engine) (c : CtxId) (r : Round) : Engine :=
  let m := undecided r
  let lost := if r.phase = .census then stringsOf m else []
  let e := (e.withdrawSweep c).putRound c (r.putOutcomes m .siteAbort)
  let e := lost.foldl (fun e g => e.putCensus g .unknown 0) e
  e.hand (lost.map Work.censusLost ++ [.advance c r.slot])

/-- One string of a CENSUS sweep, once counted (R78, R81): what its census and outcome become. -/
def Engine.censusString (e : Engine) (p : Profile) (limit : Nat) (r : Round) (g : StringId) (got : PosSet) :
    Round × Engine × List Work :=
  if r.sweepsIssued = 1 then (r, e.putCensus g .provisional got, [])
  else if got = (e.str g).censusSet ∧ got ≠ 0 then
    let e := e.putCensus g .established got
    let e := if posCount got < cellsFitted p g then e.modStr g fun x => x.setFlag sfShortCensus else e
    (r.putOutcome g .censusEstablished, e, [])
  else if limit ≤ r.sweepsIssued then
    (r.putOutcome g .censusUnstable, e.putCensus g .unstable got, [.censusLost g])
  else (r, e.putCensus g .provisional got, [])

/-- The strings of a CENSUS sweep one after another (R81). -/
def Engine.censusStrings (p : Profile) (limit : Nat) (replied : AddrSet) :
    List StringId → Round × Engine × List Work → Round × Engine × List Work
  | [], x => x
  | g :: gs, (r, e, ws) =>
    let (r', e', ws') := e.censusString p limit r g (replied.get g)
    Engine.censusStrings p limit replied gs (r', e', ws ++ ws')

/-- A CENSUS sweep completes (R81). -/
def Engine.censusCompletion (e : Engine) (p : Profile) (c : CtxId) (r : Round) (q : Request) (replied : AddrSet) :
    Engine :=
  let (r, e, ws) := Engine.censusStrings p (sweepLimit (e.slot r.slot)) replied (stringsOf q.mask) (r, e, [])
  let e := e.putRound c r
  if undecided r = 0 then e.hand (ws ++ [.advance c r.slot])
  else (e.requestSweep p c r.slot (undecided r) .census).hand ws

/-- A SURVEY sweep completes (R79). -/
def Engine.surveyCompletion (e : Engine) (p : Profile) (c : CtxId) (r : Round) : Engine :=
  let s := e.slot r.slot
  if r.sweepsIssued < sweepCount s then (e.putRound c r).requestSweep p c r.slot (orderMask s) .survey
  else (e.putRound c (r.putOutcomes (orderMask s) .surveyed)).hand [.advance c r.slot]

/-! ## Site causes (R35, R133, R139, R163) -/

/-- The valve of a context in PRIME or FILL is closed for an end (R156, R163). -/
def Engine.endFill (e : Engine) (p : Profile) (c : CtxId) (r : Round) (o : Outcome) : Engine :=
  (e.closeValve p).putRound c { r with pendingOutcome := some o, coasting := true }

/-- The current string is brought to rest on a first cause, by its phase; `r` has taken the cause (R35). -/
def Engine.bringToRest (e : Engine) (p : Profile) (c : CtxId) (r : Round) (x : Cause) : Engine :=
  match r.phase with
  | .sweeping =>
    if r.kind = .giveBack then (e.withdrawSweep c).closeStranded p c r else e.abortSurvey c r
  | .census => e.abortSurvey c r
  | .check => (e.withdrawSweep c).closeCurrent p c r .siteAbort
  | .isolating => e.putRound c { r with pendingOutcome := some .siteAbort }
  | .precharge =>
    if r.kind = .giveBack then e.giveUpReturn p c r
    else e.returnFromOpen p c { r with pendingOutcome := some .siteAbort }
  | .connecting =>
    if r.kind = .giveBack then e.putRound c r else e.putRound c { r with pendingOutcome := some .siteAbort }
  | .ramp | .hold => e.endIntoMatch c r .siteAbort
  | .matching | .returning => e.putRound c r
  | .restWait => e.finish p c r
  | .levelCheck => (e.withdrawSweep c).closeWater c r .siteAbort
  | .prime | .fill =>
    if r.coasting then e.putRound c r
    else e.endFill p c r (if x = .reservoirEmpty then .reservoirEmpty else .siteAbort)
  | .verifyWait => e.closeWater c r .wateredUnverified
  | .verify => (e.withdrawSweep c).closeWater c r .wateredUnverified
  | .idle => e.putRound c r

/-- A context takes a site cause (R35, R36). -/
def Engine.takeCause (e : Engine) (p : Profile) (c : CtxId) (r : Round) (x : Cause) : Engine :=
  if r.firstCause.isSome then e.putRound c (r.takeCause x)
  else e.bringToRest p c (r.takeCause x) x

/-! ## Completions -/

/-- A census cell of the string is in a set. -/
def Engine.anyCensusIn (e : Engine) (g : StringId) (a : AddrSet) : Bool := (e.str g).censusSet &&& a.get g != 0

/-- A CHECK sweep completes with replies taken (R118). -/
def Engine.checkCompletion (e : Engine) (p : Profile) (c : CtxId) (r : Round) (g : StringId) (missing : AddrSet) :
    Engine :=
  if e.anyCensusIn g missing || e.anyCensusCell g Cell.lost then e.closePrimary p c r g .blindCell
  else if e.anyCensusCell g fun x => fieldRead p fldHotStart < x.temperature.toInt then
    e.closePrimary p c r g .skippedHot
  else if e.anyCensusCell g fun x => x.level == .below then
    (e.modStr g fun x => x.setFlag sfLowBeforeEq).closePrimary p c r g .skippedLow
  else e.enterIsolating p c { r with compTemp := e.meanTemp g }

/-- The string stays in HOLD after a sweep: a new setpoint, and the judgement of R125. -/
def Engine.holdOn (e : Engine) (p : Profile) (c : CtxId) (r : Round) (g : StringId) : Engine :=
  let s := e.slot r.slot
  let comp := e.meanTemp g
  let v := perCellSetpoint p s comp
  let r := { r with compTemp := comp, perCell := v }
  let e := e.chargerSet c (stringSetpoint p r v)
  if r.settledCells = r.censusCount ∧ 60 * minHold s ≤ r.holdElapsed then e.endIntoMatch c r .eqSettled
  else if r.holdDue then e.dueHoldSweep p c r
  else e.putRound c r

/-- A HOLD sweep completes with replies taken (R125). -/
def Engine.holdCompletion (e : Engine) (p : Profile) (c : CtxId) (r : Round) (g : StringId) : Engine :=
  if e.anyCensusCell g fun x => fieldRead p fldCellHigh < x.voltage.toNat then e.endIntoMatch c r .cellHigh
  else if e.anyCensusCell g fun x => fieldRead p fldHotAbort < x.temperature.toInt then
    e.endIntoMatch c r .cellHot
  else if e.anyCensusCell g Cell.lost then e.endIntoMatch c r .blindCell
  else e.holdOn p c r g

/-- The census cells of a string that replied. -/
def Engine.repliedCells (e : Engine) (g : StringId) (replied : AddrSet) : List Position :=
  positionsOf ((e.str g).censusSet &&& replied.get g)

/-- The estimate of a RETURN: the mean voltage of the cells that replied times cells-fitted (R138). -/
def Engine.estimate (e : Engine) (p : Profile) (g : StringId) (cells : List Position) : Nat :=
  min 70000 ((cells.map fun q => (e.cell g q).voltage.toNat).sum / cells.length * cellsFitted p g)

/-- An ESTIMATE sweep completes with replies taken (R138). -/
def Engine.estimateCompletion (e : Engine) (p : Profile) (c : CtxId) (r : Round) (g : StringId)
    (replied : AddrSet) : Engine :=
  let cells := e.repliedCells g replied
  if cells = [] then e.closeStranded p c r
  else (e.modStr g fun x => { x with inRound := true }).enterPrecharge c
    { r with prechargeTarget := e.estimate p g cells }

/-- A LEVEL sweep completes with replies taken (R153). -/
def Engine.levelCompletion (e : Engine) (c : CtxId) (r : Round) (g : StringId) (missing : AddrSet) : Engine :=
  if e.anyCensusIn g missing || e.anyCensusCell g fun x => x.level != .above then e.enterPrime c r
  else e.closeWater c r .notNeeded

/-- A VERIFY sweep completes with replies taken (R159). -/
def Engine.verifyCompletion (e : Engine) (c : CtxId) (r : Round) (g : StringId) (replied missing : AddrSet) :
    Engine :=
  let dry := (e.repliedCells g replied).filter fun q => (e.cell g q).level == .below
  if dry ≠ [] then (e.flagDry g dry).closeWater c r .stillLow
  else if e.anyCensusIn g missing then e.closeWater c r .wateredUnverified
  else e.closeWater c r .watered

/-- The phase that waits for a sweep of a purpose (R47, R48). -/
def Phase.awaits : Phase → Purpose → Bool
  | .sweeping, .survey | .sweeping, .estimate | .census, .census | .check, .check | .hold, .hold
  | .levelCheck, .level | .verify, .verify => true
  | _, _ => false

/-- A FAILED completion, counted (R82, R118, R125, R135, R138, R153, R159). -/
def Engine.failedSweep (e : Engine) (p : Profile) (c : CtxId) (r : Round) (u : Purpose) : Engine :=
  match u with
  | .level => e.enterPrime c r
  | .verify => e.closeWater c r .wateredUnverified
  | _ => e.takeCause p c r .lineLost

/-- A COMPLETE completion, counted. -/
def Engine.completeSweep (e : Engine) (p : Profile) (c : CtxId) (r : Round) (q : Request)
    (replied missing : AddrSet) : Engine :=
  match q.purpose, r.cur with
  | .survey, _ => e.surveyCompletion p c r
  | .census, _ => e.censusCompletion p c r q replied
  | .check, some g => e.checkCompletion p c r g missing
  | .hold, some g => e.holdCompletion p c r g
  | .estimate, some g => e.estimateCompletion p c r g replied
  | .level, some g => e.levelCompletion c r g missing
  | .verify, some g => e.verifyCompletion c r g replied missing
  | _, none => e.putRound c r

/-- The context counts the settled cells of its current string on a HOLD sweep completion, however it ends (R74). -/
def Engine.countSettled (e : Engine) (r : Round) (u : Purpose) : Round :=
  match u, r.cur with
  | .hold, some g => { r with settledCells := e.settledCells g (settleCount (e.slot r.slot)) }
  | _, _ => r

/-- A completion reaches its context (R48, R53, R74). -/
def Engine.completion (e : Engine) (p : Profile) (q : Request) (ok : Bool) (replied missing : AddrSet) : Engine :=
  e.withRound q.ctx q.slot fun r e =>
    if r.phase.awaits q.purpose then
      let r := e.countSettled (r.countSweep ok) q.purpose
      if ok then e.completeSweep p q.ctx r q replied missing else e.failedSweep p q.ctx r q.purpose
    else e

/-! ## Selector notices -/

/-- A transfer of the current string has completed (R120, R122, R128 to R130, R139). -/
def Engine.transferDone (e : Engine) (p : Profile) (c : CtxId) (r : Round) (d : Drive) : Engine :=
  match r.phase, d with
  | .isolating, .opened =>
    if r.pendingOutcome.isSome then e.returnFromOpen p c r else e.enterPrecharge c r
  | .connecting, .equalise =>
    if r.kind = .giveBack then e.enterMatch c r
    else if r.pendingOutcome.isSome then
      let e := e.chargerDisable c
      let r := { r with backToOpen := true }
      match e.askTransfer p c r false .opened with
      | (.taken, e) => e.putRound c r
      | (_, e) => e.closeFaulted p c r
    else e.enterRamp p c r
  | .connecting, .opened => e.returnFromOpen p c { r with backToOpen := false }
  | .returning, .opened => if r.stranding then e.closeStranded p c r else e.toLoad p c r
  | .returning, .load =>
    e.closeCurrent p c r (if r.kind = .giveBack then .returned else r.pendingOutcome.getD .siteAbort)
  | _, _ => e

/-- A fault notice for the current string (R118, R131, R147, R152, R157). -/
def Engine.faultNotice (e : Engine) (p : Profile) (c : CtxId) (r : Round) : Engine :=
  match r.phase with
  | .check | .sweeping => (e.withdrawSweep c).closeCurrent p c r .selectorFault
  | .isolating | .precharge | .connecting | .ramp | .hold | .matching | .returning => e.closeFaulted p c r
  | .levelCheck => (e.withdrawSweep c).closeWater c r .selectorFault
  | .prime | .fill => if r.coasting then e else e.endFill p c r .selectorFault
  | _ => e

end Sys2Proof.Machine
end

