-- ==== Sys2Proof/Machine/Site.lean ====
section
/-! DEFINITION. What the site hands the part: samples (chapter 5), flow pulses (section 8.3), and the timers of the
rounds (chapters 7 and 8). -/

namespace Sys2Proof.Machine

/-! ## The supply qualifier (R89, R90) -/

/-- One line of the qualifier on a sample: the qualified value and the change count (R89). -/
def qualifyLine (time : Nat) (sampled qualified : Bool) (count : Nat) : Bool × Nat :=
  if sampled = qualified then (qualified, 0)
  else if time ≤ count + 1 then (sampled, 0)
  else (qualified, count + 1)

/-- The supply state of two qualified values (R90). -/
def supplyOf (mains gen : Bool) : Supply := if mains then .rich else if gen then .generator else .lean

/-- The qualifier after the line updates of a sample, its supply state derived anew (R89, R90). -/
def SupplyUnit.sample (u : SupplyUnit) (time : Nat) (l : Lines) : SupplyUnit :=
  let m := qualifyLine time l.mainsOk u.mains u.mainsCount
  let g := qualifyLine time l.genRun u.gen u.genCount
  { mains := m.1, gen := g.1, mainsCount := m.2, genCount := g.2, state := supplyOf m.1 g.1 }

/-- The phases of the watering part (R28). -/
def Phase.isWatering : Phase → Bool
  | .restWait | .levelCheck | .prime | .fill | .verifyWait | .verify => true
  | _ => false

/-- The phases CHECK to HOLD (R34). -/
def Phase.checkToHold : Phase → Bool
  | .check | .isolating | .precharge | .connecting | .ramp | .hold => true
  | _ => false

/-- A context takes the new supply state as SUPPLY_LOST (R34, R134, R162). -/
def Engine.losesSupply (e : Engine) (p : Profile) (u : Supply) (r : Round) : Bool :=
  (r.kind == .equalise && r.phase.checkToHold && !equaliseAllowed (e.slot r.slot) u)
    || (r.phase.isWatering && !waterAllowed p u)

/-- The qualifier takes a sample's arrival, by the qualify time that the profile held at the sample (R89, R90). -/
def Engine.qualify (e : Engine) (p : Profile) (time : Nat) : Engine :=
  let u := e.supply.sample time (latestLines e.latest)
  let changed := u.state ≠ e.supply.state
  let e := { e with supply := u, qualifierOwed := none }
  if changed then
    (e.raise .supplyChange).hand (e.causeTo (e.losesSupply p u.state) .supplyLost ++ [.scan])
  else e

/-! ## The charger port, the board and the water path (R87, R144) -/

/-- The charger port takes an arrival (R87, R116). -/
def Engine.chargerArrival (e : Engine) (prev : Lines) : Engine :=
  if (latestLines e.latest).chgFault && !prev.chgFault then
    e.hand (e.causeToHolder e.claims.charger .chargerFault)
  else e

/-- The order board takes an arrival (R87). -/
def Engine.boardArrival (e : Engine) (prev : Lines) : Engine :=
  if !(latestLines e.latest).chgFault && prev.chgFault then e.hand [.scan] else e

/-- The water path enters EMPTY (R144). -/
def Engine.emptyPath (e : Engine) (p : Profile) : Engine :=
  let open_ := e.water.valve.isSome
  let e := e.closeValve p
  let e := { e with water := { e.water with state := .empty } }
  e.hand ((if open_ then e.causeToHolder e.claims.water .reservoirEmpty else []) ++ [.scan])

/-- The water path leaves EMPTY (R144). -/
def Engine.refillPath (e : Engine) : Engine :=
  let w := if e.claims.water.isSome then { e.water with state := .busy, idle := 0 }
    else { e.water with state := .ready }
  ({ e with water := w } : Engine).hand [.scan]

/-- The water path takes an arrival (R144). -/
def Engine.waterArrival (e : Engine) (p : Profile) (prev : Lines) : Engine :=
  let l := latestLines e.latest
  let e := if l.resLow && !prev.resLow then e.raise .resLow else e
  let e := if l.resEmpty && !prev.resEmpty then e.raise .resEmpty else e
  if l.resEmpty then
    if e.water.state = .ready ∨ e.water.state = .busy then e.emptyPath p else e
  else if e.water.state = .empty then e.refillPath else e

/-! ## The contexts (R92, R121, R123, R126, R127, R139) -/

/-- Two voltages lie within the match band of each other (R121, R127). -/
def inBand (p : Profile) (x y : Nat) : Bool :=
  x ≤ y + fieldNat p fldMatchBand && y ≤ x + fieldNat p fldMatchBand

/-- The sample's current is added to the charge sum (R92). -/
def Round.addCharge (r : Round) (x : Sample) : Round :=
  { r with chargeSum := min 4294967295 (r.chargeSum + x.eqAmps) }

/-- A sample taken in PRECHARGE (R121, R139). -/
def Engine.prechargeSample (e : Engine) (p : Profile) (c : CtxId) (r : Round) (x : Sample) : Engine :=
  if r.kind = .giveBack ∧ x.lines.chgFault then e.giveUpReturn p c r
  else if inBand p x.eqVolts r.prechargeTarget then e.enterConnecting p c r
  else e

/-- A sample taken in RAMP (R92, R123). -/
def Engine.rampSample (e : Engine) (p : Profile) (c : CtxId) (r : Round) (x : Sample) : Engine :=
  let r := r.addCharge x
  if rampThreshold p r ≤ x.eqVolts then e.enterHold p c r else e.putRound c r

/-- A sample taken in HOLD (R92, R126). -/
def Engine.holdSample (e : Engine) (c : CtxId) (r : Round) (x : Sample) : Engine :=
  e.judgeHold c ((r.addCharge x).holdUntil x.time)

/-- A sample taken in MATCH (R127). -/
def Engine.matchSample (e : Engine) (p : Profile) (c : CtxId) (r : Round) (x : Sample) : Engine :=
  if x.lines.chgFault then e.strandingReturn p c r
  else if inBand p x.eqVolts x.loadVolts then e.enterReturning p c r false
  else e.chargerSet c x.loadVolts

/-- A context takes an arrival, in the phase it is in (R84). -/
def Engine.ctxArrival (e : Engine) (p : Profile) (c : CtxId) : Engine :=
  match e.ctx c, e.latest with
  | some r, some x =>
    match r.phase with
    | .precharge => e.prechargeSample p c r x
    | .ramp => e.rampSample p c r x
    | .hold => e.holdSample c r x
    | .matching => e.matchSample p c r x
    | _ => e
  | _, _ => e

/-- A consumer takes the arrival of the latest sample (R84). -/
def Engine.arrival (e : Engine) (p : Profile) (k : Consumer) (prev : Lines) : Engine :=
  match k with
  | .qualifier => e.qualify p (fieldNat p fldQualify)
  | .context c => e.ctxArrival p c
  | .charger => e.chargerArrival prev
  | .board => e.boardArrival prev
  | .water => e.waterArrival p prev

/-- The order in which a sample is taken, completed so that no consumer but the qualifier is missed (log 10, log 11).
-/
def sampleOrder (order : List Consumer) : List Consumer :=
  order ++ ([.charger, .water, .context 0, .context 1, .context 2, .context 3, .board] : List Consumer).filter
    fun k => !order.contains k

/-- The measurement unit takes a sample and hands it to its consumers (R84, R86, R93; log 7, log 10, log 11). -/
def Engine.takeSample (e : Engine) (p : Profile) (r : Readings) (order : List Consumer) : Engine :=
  let now := if e.advanceTaken then e.clock else e.clock + 1
  let prev := latestLines e.latest
  let order := sampleOrder order
  { e with clock := now, advanceTaken := false, latest := some (sampleOf now r),
           qualifierOwed := if order.contains .qualifier then none else some (fieldNat p fldQualify) }.hand
    (order.map fun k => .arrival k prev)

/-! ## Timers of an EQUALISE or RETURN (R121, R123, R124, R126, R127, R139) -/

/-- A timer of a context's phase that expires at a clock value: what the expiry does (R94). -/
def Engine.phaseTimer (e : Engine) (active : Bool) (c : CtxId) (ph : Phase) (deadline : Round → Clock)
    (f : Round → Engine → Engine) : Engine :=
  match e.ctx c with
  | some r =>
    if r.phase = ph then
      match e.due active (deadline r) with
      | some e => f r e
      | none => e
    else e
  | none => e

/-- The precharge timer expires (R121, R139). -/
def Engine.prechargeTimeout (e : Engine) (p : Profile) (active : Bool) (c : CtxId) : Engine :=
  e.phaseTimer active c .precharge (fun r => after r.phaseStart (fieldNat p fldPrecharge)) fun r e =>
    if r.kind = .giveBack then e.giveUpReturn p c r
    else e.returnFromOpen p c { r with pendingOutcome := some .prechargeTimeout }

/-- The ramp timer expires (R123). -/
def Engine.rampTimeout (e : Engine) (p : Profile) (active : Bool) (c : CtxId) : Engine :=
  e.phaseTimer active c .ramp (fun r => after r.phaseStart (60 * fieldNat p fldRamp)) fun r e =>
    e.endIntoMatch c r .rampTimeout

/-- The hold interval timer expires (R124). -/
def Engine.holdInterval (e : Engine) (p : Profile) (active : Bool) (c : CtxId) : Engine :=
  e.phaseTimer active c .hold (fun r => after r.holdTimer (fieldNat p fldHoldInterval)) fun r e =>
    e.dueHoldSweep p c { r with holdTimer := e.clock }

/-- Hold elapsed reaches the order's max hold (R126, log 12). -/
def Engine.holdTimeLimit (e : Engine) (active : Bool) (c : CtxId) : Engine :=
  e.phaseTimer active c .hold (fun r => after r.phaseStart (60 * maxHold (e.slot r.slot))) fun r e =>
    e.judgeHold c (r.holdUntil e.clock)

/-- The match timer expires (R127). -/
def Engine.matchTimeout (e : Engine) (p : Profile) (active : Bool) (c : CtxId) : Engine :=
  e.phaseTimer active c .matching (fun r => after r.phaseStart (60 * fieldNat p fldMatchTimeout)) fun r e =>
    e.strandingReturn p c r

/-! ## Flow pulses and the timers of a watering (R148, R149, R154 to R158) -/

/-- A pulse's volume is added (R148, R154, R156). -/
def Round.addPulse (r : Round) (p : Profile) : Round :=
  { r with waterVolume := min 65535 (r.waterVolume + fieldNat p fldPulse) }

/-- A pulse with the valve open reaches the holding context (R154, R156). -/
def Engine.fillPulse (e : Engine) (p : Profile) (c : CtxId) (r : Round) : Engine :=
  let r := r.addPulse p
  match r.phase, r.cur with
  | .prime, _ => e.putRound c { r.enter .fill e.clock with lastPulse := e.clock }
  | .fill, some g =>
    if volumeCap (e.slot r.slot) ≤ r.waterVolume then
      (e.modStr g fun x => x.setFlag sfVolumeCap).endFill p c r .volumeCap
    else e.putRound c { r with lastPulse := e.clock }
  | _, _ => e

/-- An idle pulse (R149). -/
def Engine.idlePulse (e : Engine) (p : Profile) : Engine :=
  let e := { e with water := { e.water with idle := bump 3 e.water.idle } }
  if e.water.idle = 3 then
    let e := e.faultPath p .leak
    e.hand (e.causeToHolder e.claims.water .leak ++ [.scan])
  else e

/-- The round of the context that holds the water path claim. -/
def Engine.waterHolder (e : Engine) : Option (CtxId × Round) :=
  match e.claims.water with
  | some c => (e.ctx c).map fun r => (c, r)
  | none => none

/-- A flow pulse (R148). -/
def Engine.flowPulse (e : Engine) (p : Profile) : Engine :=
  match e.water.valve, e.water.coast, e.waterHolder with
  | some _, _, some (c, r) => e.fillPulse p c r
  | none, some _, some (c, r) => e.putRound c (r.addPulse p)
  | none, none, _ => if e.water.state = .faulted then e else e.idlePulse p
  | _, _, none => e

/-- The dry timer expires (R155). -/
def Engine.dryExpiry (e : Engine) (p : Profile) (active : Bool) (c : CtxId) : Engine :=
  e.phaseTimer active c .prime (fun r => after r.phaseStart (fieldNat p fldDry)) fun r e =>
    if r.coasting then e
    else if (latestLines e.latest).resEmpty then (e.closeValve p).hand [.cause c r.slot .reservoirEmpty]
    else ((e.closeValve p).faultPath p .dry).hand [.cause c r.slot .pumpFault, .scan]

/-- The stop timer expires (R156). -/
def Engine.stopExpiry (e : Engine) (p : Profile) (active : Bool) (c : CtxId) : Engine :=
  e.phaseTimer active c .fill (fun r => after r.lastPulse (fieldNat p fldStop)) fun r e =>
    if r.coasting then e else e.endFill p c r .watered

/-- The fill timer expires (R156). -/
def Engine.fillTimeout (e : Engine) (p : Profile) (active : Bool) (c : CtxId) : Engine :=
  e.phaseTimer active c .fill (fun r => after r.phaseStart (60 * fieldNat p fldFill)) fun r e =>
    if r.coasting then e else e.endFill p c r .fillTimeout

/-- The verify timer expires: VERIFY is entered (R158, R159). -/
def Engine.verifyExpiry (e : Engine) (p : Profile) (active : Bool) (c : CtxId) : Engine :=
  e.phaseTimer active c .verifyWait (fun r => after r.phaseStart (fieldNat p fldVerify)) fun r e =>
    let r := r.enter .verify e.clock
    (e.putRound c r).sweepCurrent p c r .verify

/-- What the end of a coast makes of the pending outcome (R157). -/
def Engine.afterCoast (e : Engine) (c : CtxId) (r : Round) : Engine :=
  match r.pendingOutcome with
  | some .watered =>
    if verifyFlag (e.slot r.slot) then
      if r.firstCause.isSome then e.closeWater c r .wateredUnverified
      else e.putRound c { r.enter .verifyWait e.clock with coasting := false }
    else e.closeWater c r .watered
  | some o => e.closeWater c r o
  | none => e

/-- A context takes "coast ended" (R157). -/
def Engine.coastOver (e : Engine) : Engine :=
  match e.waterHolder with
  | some (c, r) => if (r.phase = .prime ∨ r.phase = .fill) ∧ r.coasting then e.afterCoast c r else e
  | none => e

/-- The coast ends (R148, R157). -/
def Engine.coastEnded (e : Engine) (active : Bool) : Engine :=
  match e.water.coast with
  | some (_, t) =>
    match e.due active t with
    | some e => { e with water := { e.water with coast := none } }.coastOver
    | none => e
  | none => e

/-! ## Selector timers (R103, R114) and rest-ended events (R112) -/

/-- A transfer timer expires (R103). -/
def Engine.transferTimeout (e : Engine) (p : Profile) (g : StringId) : Engine :=
  if (e.str g).timer.isSome then e.faultString p g else e

/-- The settling reading of one string (R114). -/
def Engine.settleString (e : Engine) (p : Profile) (g : StringId) : Engine :=
  if isFitted p g ∧ (e.str g).sel = .atLoad ∧ (e.str g).observed ≠ .load then e.faultString p g else e

/-- The settling reading (R114). -/
def Engine.settlingReading (e : Engine) (p : Profile) : Engine :=
  if e.settling.isSome then
    allStrings.foldl (fun e g => e.settleString p g) { e with settling := none }
  else e

/-- The work a rest-ended event hands over: the board's scan, and the contexts in REST_WAIT (R112). -/
def Engine.restWork (e : Engine) : List Work :=
  .scan :: allCtxs.filterMap fun c => match e.ctx c with
    | some r => if r.phase = .restWait then some (.restOver c r.slot) else none
    | none => none

/-- The clock reaches a string's rest-until time (R112). -/
def Engine.restEnded (e : Engine) (active : Bool) (g : StringId) : Engine :=
  if (e.str g).restArmed then
    match e.due active (e.str g).restUntil with
    | some e => (e.modStr g fun x => { x with restArmed := false }).hand e.restWork
    | none => e
  else e

/-- A context in REST_WAIT chooses again (R151). -/
def Engine.restOver (e : Engine) (p : Profile) (c : CtxId) (r : Round) : Engine :=
  if r.phase = .restWait ∧ (e.restedString r).isSome then e.chooseWater p c r else e

end Sys2Proof.Machine
end

