-- ==== Sys2Proof/Machine/Drain.lean ====
section
/-! DEFINITION. The work the blocks hand one another, done piece by piece until none is left (log 15, log 16). -/

namespace Sys2Proof.Machine

/-- One piece of work. -/
def Engine.work (e : Engine) (p : Profile) (w : Work) : Engine :=
  match w with
  | .scan => if e.board.queue = [] then e else e.hand [.walk e.board.queue]
  | .walk [] => e
  | .walk (n :: rest) => e.walkOne p n rest
  | .beginRound c n => e.withRound c n fun r e => e.beginRound p c r
  | .arrival k prev => e.arrival p k prev
  | .cause c n x => e.withRound c n fun r e => e.takeCause p c r x
  | .completion q ok replied missing => e.completion p q ok replied missing
  | .received bytes => e.received p bytes
  | .guardFailed => e.afterGuardFailed p
  | .sweepDone silent => e.afterSweep p silent
  | .transferDone c n g d => e.withRound c n fun r e => if r.cur = some g then e.transferDone p c r d else e
  | .faultNotice c n g => e.withRound c n fun r e => if r.cur = some g then e.faultNotice p c r else e
  | .censusLost g => e.censusReport g
  | .standDownNext => e.standDownNext
  | .standDownCheck => e.standDownCheck
  | .advance c n => e.withRound c n fun r e => e.advance p c r
  | .restOver c n => e.withRound c n fun r e => e.restOver p c r

/-- The next piece of work is done, if there is one. -/
def Engine.workNext (e : Engine) (p : Profile) : Engine :=
  match e.agenda with
  | [] => e
  | w :: ws => ({ e with agenda := ws } : Engine).work p w

/-- Work is done until none is left, or the budget is (log 15). -/
def Engine.drain (p : Profile) : Nat → Engine → Engine
  | 0, e => e
  | k + 1, e => match e.agenda with
    | [] => e
    | _ :: _ => Engine.drain p k (e.workNext p)

/-- The events handed to the alert unit are judged, first first (R182), and the command is over: work that the
budget left, if ever there were any, is given up (log 15). -/
def State.absorb (s : State) : State :=
  { s with alert := s.eng.raised.foldl Alert.capture s.alert, eng := { s.eng with raised := [], agenda := [] } }

/-- The blocks do something, and everything that follows from it. -/
def State.act (s : State) (f : Engine → Engine) : State :=
  State.absorb { s with eng := Engine.drain s.profile Config.workBudget (f s.eng) }

/-- The part is ACTIVE and not held in reset. -/
def State.awake (s : State) : Bool := s.held.isNone && s.alert.power == .active

/-- Something the blocks do while the part is not held in reset (log 8). -/
def State.whenFree (s : State) (f : Engine → Engine) : State := if s.held.isNone then s.act f else s

/-- Something the blocks do while the part is ACTIVE and not held in reset (log 8). -/
def State.whenAwake (s : State) (f : Engine → Engine) : State := if s.awake then s.act f else s

end Sys2Proof.Machine
end

