-- ==== Sys2Proof/Machine/Burst.lean ====
section
/-! DEFINITION. The address sequence of a link burst (R170, R197), the bytes a WRITE applies (R172), and the kinds of
address it may touch (R173). -/

namespace Sys2Proof

namespace Machine

/-- The thirteen address bits that are used (R166). -/
def low13 (a : BitVec 16) : Nat := a.toNat % 8192

/-- A value the port mode word takes: bits 7:3 clear (R197). -/
def portModeOk (v : Byte) : Bool := v.toNat < 8

/-- The word selects CIRCULATE (R197). -/
def circulates (mode : Byte) : Bool := mode.getLsbD 0

/-- The window size W, 1 to 4 (R197). -/
def windowSize (mode : Byte) : Nat := mode.toNat / 2 % 4 + 1

/-- The address of the k-th data byte (R170). -/
def burstAddr (mode : Byte) (start : BitVec 16) (k : Nat) : Nat :=
  (low13 start + if circulates mode then k % windowSize mode else k) % 8192

/-- The bytes of a burst with their addresses, in burst order. -/
def burstBytes (mode : Byte) (start : BitVec 16) : Nat → List Byte → List (Nat × Byte)
  | _, [] => []
  | k, b :: bs => (burstAddr mode start k, b) :: burstBytes mode start (k + 1) bs

/-- Puts a byte into a list that rises in address; a later value for an address replaces the earlier (R172). -/
def applyLater (x : Nat × Byte) : List (Nat × Byte) → List (Nat × Byte)
  | [] => [x]
  | y :: ys =>
    if x.1 < y.1 then x :: y :: ys
    else if x.1 = y.1 then x :: ys
    else y :: applyLater x ys

/-- The bytes a WRITE applies: each address once, with its last value, in ascending address (R172). -/
def appliedBytes (mode : Byte) (w : WriteBurst) : List (Nat × Byte) :=
  (burstBytes mode w.addr 0 w.data).foldl (fun acc x => applyLater x acc) []

/-- The address lies in the order board's slots. -/
def inSlots (a : Nat) : Bool := 0x0100 ≤ a && a ≤ 0x04FF

/-- The slot an address of the board lies in. -/
def slotOf (a : Nat) : SlotId := ⟨(a - 0x0100) / 64 % 16, Nat.mod_lt _ (by decide)⟩

/-- The offset of an address within its slot. -/
def slotOffset (a : Nat) : Nat := (a - 0x0100) % 64

/-- The address of a slot's mark byte. -/
def markAddr (n : SlotId) : Nat := 0x0100 + n.val * 64

/-- The address is a slot's mark byte. -/
def isMarkAddr (a : Nat) : Bool := inSlots a && slotOffset a == 0

/-- The address is a byte of an order body (bytes 1 to 31 of a slot). -/
def isBodyAddr (a : Nat) : Bool := inSlots a && (1 ≤ slotOffset a && slotOffset a ≤ 31)

/-- The address is a byte of the site profile. -/
def isProfileAddr (a : Nat) : Bool := 0x0040 ≤ a && a ≤ 0x007F

/-- The address is one of the two bytes of the event status word. -/
def isStatusAddr (a : Nat) : Bool := a == 0x0012 || a == 0x0013

/-- The bytes of pass 1: every applied byte that is no slot mark, in ascending address (R172). -/
def passOne (bs : List (Nat × Byte)) : List (Nat × Byte) := bs.filter fun x => !isMarkAddr x.1

/-- The bytes of pass 2: every slot mark touched, in ascending slot number (R172). -/
def passTwo (bs : List (Nat × Byte)) : List (Nat × Byte) := bs.filter fun x => isMarkAddr x.1

/-- The byte a REGISTER_WRITE is sent for: one with no row of its own (R173). -/
def isRegisterByte (x : Nat × Byte) : Bool :=
  !(isMarkAddr x.1 || isBodyAddr x.1 || isProfileAddr x.1 || isStatusAddr x.1)
    && !(x.1 == 0x0004 && (x.2 == 0x01 || x.2 == 0x02 || x.2 == 0x03))

end Machine

open Machine

/-- Some port mode makes the burst apply a byte of this sort, and its length is one that commits (R171). -/
def WriteBurst.carries (w : WriteBurst) (sort : Nat × Byte → Bool) : Bool :=
  (1 ≤ w.data.length && w.data.length ≤ 64)
    && ([0, 1, 3, 5, 7] : List Byte).any fun mode => (appliedBytes mode w).any sort

/-- A WRITE as its bytes arrive (R166). -/
def WriteBurst.raw (w : WriteBurst) : RawTransaction :=
  { bytes := 0x22 :: w.addr.extractLsb' 8 8 :: w.addr.extractLsb' 0 8 :: w.data, extraBits := 0 }

/-- A READ as its bytes arrive; the data bytes shifted in do not matter (R166). -/
def ReadBurst.raw : ReadBurst → RawTransaction
  | .commandOnly => { bytes := [0x11], extraBits := 0 }
  | .addressHigh h => { bytes := [0x11, h], extraBits := 0 }
  | .data a n =>
    { bytes := 0x11 :: a.extractLsb' 8 8 :: a.extractLsb' 0 8 :: List.replicate n 0, extraBits := 0 }

namespace Machine

/-- What a transaction is, once CS# has risen (R166, R171). -/
inductive Framing where
  /-- CS# fell and rose with no SCK edge between: not a transaction (R166). -/
  | nothing
  /-- A READ without error; the data bytes, if the address was complete. -/
  | read (data : Option (BitVec 16 × Nat))
  /-- A WRITE that commits. -/
  | write (w : WriteBurst)
  /-- A FRAMING error; the command byte and address, so far as they were complete, and the data bytes. -/
  | error (command : Option Byte) (data : Option (BitVec 16 × List Byte))
  deriving DecidableEq, Repr

/-- The sixteen address bits, high byte first (R166). -/
def addressOf (high low : Byte) : BitVec 16 := high ++ low

end Machine

/-- Judges a transaction at its CS# rise (R171). -/
def RawTransaction.framing (t : RawTransaction) : Framing :=
  match t.bytes with
  | [] => if t.extraBits = 0 then .nothing else .error none none
  | [c] => if c = 0x11 ∧ t.extraBits = 0 then .read none else .error (some c) none
  | [c, _] => if c = 0x11 ∧ t.extraBits = 0 then .read none else .error (some c) none
  | c :: h :: l :: ds =>
    if c = 0x11 ∧ t.extraBits = 0 ∧ ds.length ≤ 64 then .read (some (addressOf h l, ds.length))
    else if c = 0x22 ∧ t.extraBits = 0 ∧ 1 ≤ ds.length ∧ ds.length ≤ 64 then .write ⟨addressOf h l, ds⟩
    else .error (some c) (some (addressOf h l, ds))

end Sys2Proof
end

