-- ==== Sys2Proof/Machine/View.lean ====
section
/-! DEFINITION. The shared work area as the link reads it (chapter 11): every byte of it is a view of the blocks'
state. The codes are those of section 11.9. -/

namespace Sys2Proof.Machine

/-! ## Codes -/

/-- Mark codes (R1). -/
def Mark.code : Mark → Byte
  | .free => 0x00
  | .queued => 0x02
  | .running => 0x03
  | .settled => 0x04
  | .refused => 0x05

/-- Order kind codes. -/
def Kind.code : Kind → Byte
  | .survey => 1
  | .equalise => 2
  | .water => 3
  | .giveBack => 4

/-- Phase codes (R28). -/
def Phase.code : Phase → Byte
  | .idle => 0
  | .sweeping => 1
  | .census => 2
  | .check => 3
  | .isolating => 4
  | .precharge => 5
  | .connecting => 6
  | .ramp => 7
  | .hold => 8
  | .matching => 9
  | .returning => 10
  | .restWait => 11
  | .levelCheck => 12
  | .prime => 13
  | .fill => 14
  | .verifyWait => 15
  | .verify => 16

/-- Per-string outcome codes. -/
def Outcome.code : Outcome → Byte
  | .notInMask => 0x00
  | .notReached => 0x01
  | .inProgress => 0x02
  | .surveyed => 0x10
  | .censusEstablished => 0x11
  | .censusUnstable => 0x12
  | .eqSettled => 0x20
  | .eqTimed => 0x21
  | .eqChargeCap => 0x22
  | .skippedHot => 0x30
  | .skippedLow => 0x31
  | .skippedReserve => 0x32
  | .cellHigh => 0x40
  | .cellHot => 0x41
  | .blindCell => 0x42
  | .rampTimeout => 0x43
  | .prechargeTimeout => 0x44
  | .selectorFault => 0x45
  | .stranded => 0x46
  | .siteAbort => 0x47
  | .returned => 0x50
  | .watered => 0x60
  | .wateredUnverified => 0x61
  | .notNeeded => 0x62
  | .stillLow => 0x63
  | .volumeCap => 0x64
  | .fillTimeout => 0x65
  | .reservoirEmpty => 0x66
  | .interrupted => 0x70

/-- Site cause codes (R34). -/
def Cause.code : Cause → Byte
  | .withdrawn => 1
  | .standDown => 2
  | .supplyLost => 3
  | .lineLost => 4
  | .chargerFault => 5
  | .reserveLost => 6
  | .reservoirEmpty => 7
  | .pumpFault => 8
  | .leak => 9
  | .censusLost => 10
  | .expired => 11

/-- Refusal reason codes (R8). -/
def Reason.code : Reason → Byte
  | .unknownKind => 0x20
  | .emptyMask => 0x21
  | .stringNotFitted => 0x22
  | .paramRange => 0x23
  | .profileUnconfirmed => 0x24
  | .noCensus => 0x25
  | .notStranded => 0x26
  | .standingDown => 0x27
  | .stringFaulted => 0x28

/-- Order outcome codes (R39). -/
def OrderOutcome.code : OrderOutcome → Byte
  | .noneYet => 0
  | .done => 1
  | .partly => 2
  | .aborted => 3
  | .withdrawn => 4
  | .expired => 5

/-- First cause codes (section 11.4). -/
def FirstCause.code : FirstCause → Byte
  | .none => 0
  | .cause x => x.code
  | .reason x => x.code

/-- Selector state codes (R98). -/
def SelState.code : SelState → Byte
  | .atLoad => 0
  | .goingOpen => 1
  | .atOpen => 2
  | .goingEq => 3
  | .atEq => 4
  | .goingLoad => 5
  | .faulted => 6

/-- Commanded position codes (R96). -/
def Drive.code : Drive → Byte
  | .load => 0
  | .opened => 1
  | .equalise => 2

/-- The two drive outputs of a string's selector, the first and the second, energised or not (R96; log 28). -/
def Drive.outputs : Drive → Bool × Bool
  | .load => (false, false)
  | .opened => (true, false)
  | .equalise => (true, true)

/-- The two drive outputs of a string's selector (R96). -/
def StringRec.outputs (x : StringRec) : Bool × Bool := x.commanded.outputs

/-- Observed position codes (R97, R111). -/
def contactCode : Contact → Byte
  | .load => 0
  | .opened => 1
  | .equalise => 2
  | .between => 3

/-- Census state codes (R76). -/
def Census.code : Census → Byte
  | .unknown => 0
  | .provisional => 1
  | .established => 2
  | .unstable => 3

/-- Line state codes (R43). -/
def LineState.code : LineState → Byte
  | .off => 0
  | .asleep => 1
  | .waking => 2
  | .active => 3
  | .faulted => 4

/-- Line fault cause codes (R43). -/
def LineCause.code : LineCause → Byte
  | .none => 0
  | .degraded => 1
  | .stuck => 2
  | .silent => 3

/-- Water path state codes (R142). -/
def PathState.code : PathState → Byte
  | .ready => 0
  | .busy => 1
  | .empty => 2
  | .faulted => 3

/-- Water path fault cause codes (R142). -/
def PathCause.code : PathCause → Byte
  | .none => 0
  | .dry => 1
  | .leak => 2

/-- Supply state codes (R90). -/
def Supply.code : Supply → Byte
  | .lean => 0
  | .generator => 1
  | .rich => 2

/-- Power state codes (R189). -/
def Power.code : Power → Byte
  | .active => 0
  | .dormant => 1

/-- Wake source codes (R189). -/
def WakeSource.code : WakeSource → Byte
  | .none => 0
  | .link => 1
  | .supplyLine => 2
  | .wakeTimer => 3

/-- Level codes (R66). -/
def Level.code : Level → Byte
  | .above => 0
  | .below => 1
  | .probeFault => 2
  | .noProbe => 3

/-- Settle reference kind codes (section 11.6). -/
def RefKind.code : RefKind → Byte
  | .none => 0
  | .voltage => 1
  | .gravity => 2

/-- A bit in its place. -/
def bitAt (b : Bool) (k : Nat) : Byte := if b then 1#8 <<< k else 0

/-- A count as one byte. -/
def byteOf (n : Nat) : Byte := BitVec.ofNat 8 n

/-- A context number, or 0xFF for none. -/
def ownerCode : Option CtxId → Byte
  | some c => byteOf c.val
  | none => 0xFF

/-- A string number, or 0xFF for none. -/
def stringCode : Option StringId → Byte
  | some g => byteOf g.val
  | none => 0xFF

/-- An outcome of a list, by the string's number. -/
def listByte (v : Vector Outcome 8) (k : Nat) : Byte := ((v[k]?).getD .notInMask).code

/-! ## Computed words -/

/-- The settled set (R22): the slots whose mark is SETTLED or REFUSED. -/
def Engine.settledSet (e : Engine) : BitVec 16 :=
  allSlots.foldl (fun w n =>
    if (e.slot n).mark = .settled ∨ (e.slot n).mark = .refused then w ||| (1#16 <<< n.val) else w) 0

/-- Some slot is FREE. -/
def Engine.anyFree (e : Engine) : Bool := allSlots.any fun n => (e.slot n).mark == .free

/-- The global status byte (R167). -/
def State.statusByte (s : State) : Byte :=
  bitAt (s.alert.status != 0) 7 ||| bitAt (s.eng.settledSet != 0) 6 ||| bitAt s.eng.anyBusy 5
    ||| bitAt s.eng.anyFree 4 ||| bitAt (s.eng.line.state == .faulted) 3 ||| bitAt (s.eng.supply.state == .rich) 2
    ||| bitAt s.eng.board.standingDown 1 ||| bitAt s.link.prevError 0

/-- The line state word (R43). -/
def Line.word (l : Line) : Byte := l.state.code ||| l.cause.code <<< 4

/-- The water path state word (R142). -/
def Engine.waterWord (e : Engine) : Byte :=
  e.water.state.code ||| e.water.cause.code <<< 2 ||| bitAt (latestLines e.latest).resLow 4
    ||| bitAt (latestLines e.latest).resEmpty 5 ||| bitAt e.water.valve.isSome 6 ||| bitAt e.water.pump 7

/-- The supply state word (R90). -/
def SupplyUnit.word (u : SupplyUnit) : Byte := u.state.code ||| bitAt u.mains 4 ||| bitAt u.gen 5

/-- The power state word (R189). -/
def Alert.powerWord (a : Alert) : Byte := a.power.code ||| a.wakeSource.code <<< 4

/-- The port words, 0x0000 to 0x001B (section 11.2). -/
def State.portByte (s : State) (a : Nat) : Byte :=
  match a with
  | 0x00 => Config.familyCode
  | 0x01 => Config.revision
  | 0x02 => s.alert.resetCause
  | 0x03 => s.link.portMode
  | 0x04 => s.link.control
  | 0x05 => s.link.lock
  | 0x06 => s.alert.holdoffWord
  | 0x08 => leByte s.eng.clock.toNat 0
  | 0x09 => leByte s.eng.clock.toNat 1
  | 0x0A => leByte s.eng.clock.toNat 2
  | 0x0B => leByte s.eng.clock.toNat 3
  | 0x0C => s.eng.line.word
  | 0x0D => byteOf s.eng.line.errors
  | 0x0E => byteOf s.eng.line.faultCount
  | 0x0F => s.eng.waterWord
  | 0x10 => s.eng.supply.word
  | 0x11 => s.alert.powerWord
  | 0x12 => leByte s.alert.status.toNat 0
  | 0x13 => leByte s.alert.status.toNat 1
  | 0x14 => leByte s.alert.enables.toNat 0
  | 0x15 => leByte s.alert.enables.toNat 1
  | 0x16 => s.link.portErrorDetail
  | 0x17 => s.link.rejectDetail
  | 0x18 => leByte s.eng.settledSet.toNat 0
  | 0x19 => leByte s.eng.settledSet.toNat 1
  | 0x1A => leByte s.eng.line.strayCount 0
  | 0x1B => leByte s.eng.line.strayCount 1
  | _ => 0

/-! ## Records -/

/-- A byte of a result section, by its offset within the slot (section 11.4). -/
def Result.byte (r : Result) (k : Nat) : Byte :=
  match k with
  | 32 => r.outcome.code
  | 33 => r.first.code
  | 34 => byteOf r.later
  | 35 => if r.late then 1 else 0
  | _ =>
    if k < 40 then leByte r.accepted.toNat (k - 36)
    else if k < 44 then leByte r.started.toNat (k - 40)
    else if k < 48 then leByte r.settled.toNat (k - 44)
    else if k < 56 then listByte r.primary (k - 48)
    else listByte r.watering (k - 56)

/-- A byte of a slot (section 11.4). -/
def Slot.byte (s : Slot) (k : Nat) : Byte :=
  if k = 0 then s.mark.code else if k < 32 then bodyByte s k else s.result.byte k

/-- A byte of a string's record (section 11.5). -/
def StringRec.byte (x : StringRec) (owner : Option CtxId) (k : Nat) : Byte :=
  match k with
  | 0 => x.cellsCopy
  | 1 => x.census.code
  | 2 => byteOf x.censusCount
  | 3 => leByte x.censusSet.toNat 0
  | 4 => leByte x.censusSet.toNat 1
  | 5 => leByte x.censusSet.toNat 2
  | 6 => x.sel.code
  | 7 => x.commanded.code
  | 8 => contactCode x.observed
  | 9 => ownerCode owner
  | 10 => bitAt x.stranded 0 ||| bitAt x.inRound 1
  | 11 => x.flags
  | 16 => match x.lastEqOutcome with
    | some o => o.code
    | none => 0
  | 17 => 0
  | 18 => leByte x.eqCount 0
  | 19 => leByte x.eqCount 1
  | 24 => leByte x.lastFill 0
  | 25 => leByte x.lastFill 1
  | 26 => leByte x.waterCount 0
  | 27 => leByte x.waterCount 1
  | _ =>
    if k < 16 then leByte x.lastEqTime.toNat (k - 12)
    else if k < 24 then leByte x.lastWaterTime.toNat (k - 20)
    else leByte x.restUntil.toNat (k - 28)

/-- A byte of a cell record (section 11.6). -/
def Cell.byte (x : Cell) (k : Nat) : Byte :=
  match k with
  | 0 => leByte x.voltage.toNat 0
  | 1 => leByte x.voltage.toNat 1
  | 2 => leByte x.temperature.toNat 0
  | 3 => leByte x.temperature.toNat 1
  | 4 => leByte x.gravity.toNat 0
  | 5 => leByte x.gravity.toNat 1
  | 6 => x.level.code
  | 7 => x.flags
  | 8 => byteOf x.streak ||| byteOf x.misses <<< 4 ||| x.refKind.code <<< 6
  | 9 => leByte x.reference.toNat 0
  | 10 => leByte x.reference.toNat 1
  | 11 => 0
  | _ => leByte x.lastTime.toNat (k - 12)

/-- The strings a context has claimed. -/
def Engine.claimsOf (e : Engine) (c : CtxId) : StringMask := maskOf fun g => e.owner g == some c

/-- A byte of a busy context's mirror (section 11.7). -/
def Engine.roundByte (e : Engine) (c : CtxId) (r : Round) (k : Nat) : Byte :=
  let holds := e.claims.charger == some c
  match k with
  | 0 => 1
  | 1 => byteOf r.slot.val
  | 2 => r.kind.code
  | 3 => r.phase.code
  | 4 => stringCode r.cur
  | 5 => r.remaining
  | 6 => match r.pendingOutcome with
    | some o => o.code
    | none => 0
  | 7 => bitAt holds 0 ||| bitAt (e.claims.water == some c) 1
  | 8 => e.claimsOf c
  | 9 => match r.firstCause with
    | some x => x.code
    | none => 0
  | 10 => byteOf r.laterCauses
  | 11 => byteOf r.sweepsIssued
  | 12 => byteOf r.sweepsFailed
  | 13 => byteOf r.settledCells
  | 14 => byteOf r.censusCount
  | 15 => if holds && e.charger.enable then 1 else 0
  | 20 => leByte r.holdElapsed 0
  | 21 => leByte r.holdElapsed 1
  | 22 => leByte r.perCell 0
  | 23 => leByte r.perCell 1
  | 28 => leByte r.waterVolume 0
  | 29 => leByte r.waterVolume 1
  | 34 => if holds then leByte e.charger.limit 0 else 0
  | 35 => if holds then leByte e.charger.limit 1 else 0
  | _ =>
    if k < 20 then leByte r.phaseStart.toNat (k - 16)
    else if k < 28 then leByte r.charge (k - 24)
    else if k < 34 then (if holds then leByte e.charger.setpoint (k - 30) else 0)
    else if k < 44 then listByte r.primary (k - 36)
    else if k < 52 then listByte r.watering (k - 44)
    else 0

/-- A byte of a context's mirror; a free context shows slot 0xFF and current string 0xFF (R27). -/
def Engine.mirrorByte (e : Engine) (c : CtxId) (k : Nat) : Byte :=
  match e.ctx c with
  | some r => e.roundByte c r k
  | none => if k = 1 ∨ k = 4 then 0xFF else 0

/-! ## The area (section 11.1) -/

/-- The string whose record an address of the string table lies in. -/
def tableString (a : Nat) : StringId := ⟨(a - 0x0500) / 32 % 8, Nat.mod_lt _ (by decide)⟩

/-- The string whose cells an address of the cell table lies among. -/
def cellString (a : Nat) : StringId := ⟨(a - 0x0600) / 0x180 % 8, Nat.mod_lt _ (by decide)⟩

/-- The position whose record an address of the cell table lies in. -/
def cellPosition (a : Nat) : Position := ⟨(a - 0x0600) / 16 % 24, Nat.mod_lt _ (by decide)⟩

/-- The context whose mirror an address of the context view lies in. -/
def viewCtx (a : Nat) : CtxId := ⟨(a - 0x1200) / 64 % 4, Nat.mod_lt _ (by decide)⟩

/-- What the link reads at an address (section 11.1, R196). -/
def State.readByte (s : State) (a : Nat) : Byte :=
  if a < 0x001C then s.portByte a
  else if a < 0x0040 then 0
  else if a < 0x0080 then profileByte s.profile (a - 0x0040)
  else if a < 0x0100 then 0
  else if a < 0x0500 then (s.eng.slot (slotOf a)).byte (slotOffset a)
  else if a < 0x0600 then (s.eng.str (tableString a)).byte (s.eng.owner (tableString a)) ((a - 0x0500) % 32)
  else if a < 0x1200 then (s.eng.cell (cellString a) (cellPosition a)).byte ((a - 0x0600) % 16)
  else if a < 0x1300 then s.eng.mirrorByte (viewCtx a) ((a - 0x1200) % 64)
  else 0

end Sys2Proof.Machine
end

