-- ==== Sys2Proof/Machine/Commit.lean ====
section
/-! DEFINITION. The controller link: transactions, the snapshot, the commit of a WRITE and the control commands
(chapter 9), and entering and leaving DORMANT (chapter 10). -/

namespace Sys2Proof.Machine

/-! ## Small changes of the state -/

/-- An event is handed to the alert unit (R182). -/
def State.signal (s : State) (ev : Event) : State := { s with alert := s.alert.capture ev }

/-- The control word reads back a value (R175). -/
def State.readBack (s : State) (v : Byte) : State := { s with link := { s.link with control := v } }

/-- The port error detail byte takes the kind of an error, and PORT_ERROR is handed (R171, R173, R174). -/
def State.portError (s : State) (detail : Byte) : State :=
  State.signal { s with link := { s.link with portErrorDetail := detail } } .portError

/-! ## Power (R189 to R193) -/

/-- The part wakes (R193). -/
def State.wake (s : State) (src : WakeSource) : State :=
  if s.alert.power = .dormant then
    { s with alert := { s.alert with power := .active, wakeSource := src, wakeTimer := none } }
  else s

/-- The selectors allow DORMANT (R190). -/
def Engine.selectorsRest (e : Engine) (p : Profile) : Bool :=
  allStrings.all fun g => !isFitted p g || ((e.str g).sel == .atLoad && !(e.str g).stranded)

/-- No slot's mark is QUEUED or RUNNING (R178, R190). -/
def Engine.noOrders (e : Engine) : Bool :=
  allSlots.all fun n => (e.slot n).mark != .queued && (e.slot n).mark != .running

/-- The conditions of GO_DORMANT (R190). -/
def State.mayRest (s : State) : Bool :=
  s.eng.noOrders && s.alert.status == 0 && s.eng.selectorsRest s.profile
    && (s.eng.line.state == .asleep || s.eng.line.state == .off) && !s.eng.board.standingDown

/-- The wake timer's start (R193). -/
def wakeAt (p : Profile) (now : Clock) : Option Clock :=
  if fieldNat p fldWake = 0 then none else some (after now (60 * fieldNat p fldWake))

/-- The qualifier takes a sample that it has yet to take, by the qualify time of that sample (R89, log 11). -/
def State.settleQualifier (s : State) : State :=
  match s.eng.qualifierOwed with
  | some time => s.act fun e => e.qualify s.profile time
  | none => s

/-- The part enters DORMANT (R191; R64, R86, R91). No arrival is owed then: a transaction that asks for DORMANT has had
it taken before it began (log 11). -/
def State.enterDormant (s : State) : State :=
  { s with
    alert := { s.alert with power := .dormant, wakeTimer := wakeAt s.profile s.eng.clock },
    eng := { s.eng with latest := none, advanceTaken := false, qualifierOwed := none,
                        supply := { s.eng.supply with mainsCount := 0, genCount := 0 } } }

/-! ## Control commands (R175, R176, R179) -/

/-- STAND_DOWN is taken (R24, R175). -/
def State.takeStandDown (s : State) : State :=
  if s.eng.board.standingDown then s.readBack 0x82
  else (s.readBack 0x80).act Engine.standDownNext

/-- GO_DORMANT is refused (R190). -/
def State.refuseDormant (s : State) : State := (s.readBack 0x81).signal .controlRefused

/-- Every string's cells-fitted copy is written (R111, R179). -/
def Engine.copyCells (e : Engine) (p : Profile) : Engine :=
  allStrings.foldl (fun e g => e.modStr g fun x => { x with cellsCopy := profileByte p (0x02 + g.val) }) e

/-- The profile check passes (R179). -/
def State.confirmPass (s : State) : State :=
  let s := s.readBack 0x80
  { s with profile := putConfirmed s.profile true, eng := (s.eng.copyCells s.profile).wakeFromOff }

/-- The profile check fails at a field (R179). -/
def State.confirmFail (s : State) (offset : Nat) : State :=
  let s := s.readBack 0x81
  State.signal { s with profile := putConfirmed s.profile false,
                        link := { s.link with rejectDetail := byteOf offset } } .profileReject

/-- CONFIRM_PROFILE is taken (R179). -/
def State.takeConfirm (s : State) : State :=
  match profileReject s.profile with
  | none => s.confirmPass
  | some k => s.confirmFail k

/-! ## Profile bytes (R178) -/

/-- A profile byte is kept (R178). -/
def State.keepsProfile (s : State) (k : Nat) : Bool := s.eng.noOrders && s.link.lock != 0xA5 && k != 0x3F

/-- A string joins the fitted mask (R110). -/
def Engine.joinMask (e : Engine) (p : Profile) (g : StringId) : Engine :=
  match (e.str g).sel.home with
  | some x => if (e.str g).observed = x then e else e.faultString p g
  | none => e

/-- The fitted mask has changed (R110). -/
def Engine.maskChanged (e : Engine) (old new : Profile) : Engine :=
  allStrings.foldl (fun e g => if isFitted new g && !isFitted old g then e.joinMask new g else e) e

/-- A string's cells-fitted has changed (R77, R111, R178). -/
def Engine.cellsChanged (e : Engine) (g : StringId) (v : Byte) : Engine :=
  (e.modStr g fun x => { x with cellsCopy := v }).loseCensus g

/-- What a kept change of a profile byte does to the blocks (R178). -/
def Engine.profileChanged (e : Engine) (old new : Profile) (k : Nat) (v : Byte) : Engine :=
  if k = 0 then e.maskChanged old new
  else if h : 2 ≤ k ∧ k ≤ 9 then e.cellsChanged ⟨k - 2, by omega⟩ v
  else e

/-- A profile byte that is kept is written. One that differs from the value it replaces is a change, and is acted on; one
equal to it changes nothing, a string's cells-fitted copy included (R178; R110; log 37). -/
def State.writeProfile (s : State) (k : Nat) (v : Byte) : State :=
  if profileByte s.profile k = v then s
  else
    let new := putConfirmed (putProfileByte s.profile k v) false
    State.act { s with profile := new } fun e => e.profileChanged s.profile new k v

/-! ## The commit (R172 to R174) -/

/-- A commit under way. -/
structure Commit where
  st : State
  blocked : Bool
  markError : Bool
  holdoffStarted : Bool
  dormantPending : Bool
  deriving DecidableEq, Repr

/-- The commit before its first byte. -/
def Commit.start (s : State) : Commit :=
  { st := s, blocked := false, markError := false, holdoffStarted := false, dormantPending := false }

/-- A byte is dropped: BLOCKED is written, and PORT_ERROR is handed once for the commit (R173). -/
def Commit.drop (m : Commit) : Commit :=
  if m.blocked then m else { m with st := m.st.portError 2, blocked := true }

/-- The commit with its state changed. -/
def Commit.onState (m : Commit) (f : State → State) : Commit := { m with st := f m.st }

/-- GO_DORMANT is judged as pass 1 applies the control byte (R176, R190). -/
def Commit.takeDormant (m : Commit) : Commit :=
  if m.st.mayRest then { m with st := m.st.readBack 0x80, dormantPending := true }
  else m.onState State.refuseDormant

/-- A control byte (R175). A command taken in one commit is the only one, since the address is applied once. -/
def Commit.control (m : Commit) (v : Byte) : Commit :=
  if v = 0x01 then m.onState State.takeStandDown
  else if v = 0x02 then m.takeDormant
  else if v = 0x03 then m.onState State.takeConfirm
  else m.drop

/-- A byte of the event status word (R183): the holdoff starts once for the commit. -/
def Commit.clearStatus (m : Commit) (high : Bool) (v : Byte) : Commit :=
  let a := m.st.alert
  let mask := statusMask high v
  let cleared := a.clearBits mask
  if a.status &&& mask ≠ 0 ∧ !m.holdoffStarted then
    { m with st := { m.st with alert := cleared.startHoldoff }, holdoffStarted := true }
  else m.onState fun s => { s with alert := cleared }

/-- A byte of an order body (R3). -/
def Commit.body (m : Commit) (n : SlotId) (off : Nat) (v : Byte) : Commit :=
  if (m.st.eng.slot n).mark = .free then
    m.onState fun s => { s with eng := s.eng.modSlot n fun x =>
      { x with body := if h : off - 1 < 31 then x.body.set (off - 1) v h else x.body } }
  else m.drop

/-- The alert unit is changed. -/
def Commit.onAlert (m : Commit) (f : Alert → Alert) : Commit := m.onState fun s => { s with alert := f s.alert }

/-- The link's words are changed. -/
def Commit.onLink (m : Commit) (f : Link → Link) : Commit := m.onState fun s => { s with link := f s.link }

/-- A byte of pass 1, kept or dropped by its owner (R173). -/
def Commit.apply (m : Commit) (x : Nat × Byte) : Commit :=
  let a := x.1
  let v := x.2
  if a = 0x0003 then if portModeOk v then m.onLink fun l => { l with portMode := v } else m.drop
  else if a = 0x0004 then m.control v
  else if a = 0x0005 then if v = 0x00 ∨ v = 0xA5 then m.onLink fun l => { l with lock := v } else m.drop
  else if a = 0x0006 then m.onAlert fun z => { z with holdoffWord := v }
  else if isStatusAddr a then m.clearStatus (a == 0x0013) v
  else if a = 0x0014 ∨ a = 0x0015 then m.onAlert fun z => { z with enables := putHalfByte (a == 0x0015) v z.enables }
  else if isProfileAddr a then
    if m.st.keepsProfile (a - 0x0040) then m.onState fun s => s.writeProfile (a - 0x0040) v else m.drop
  else if isBodyAddr a then m.body (slotOf a) (slotOffset a) v
  else m.drop

/-- A mark request of pass 2 (R2, R172); one that is discarded is a MARK error (R174). -/
def Commit.mark (m : Commit) (x : Nat × Byte) : Commit :=
  match m.st.eng.markRequest m.st.profile (slotOf x.1) x.2 with
  | some e => m.onState fun s => s.act fun _ => e
  | none => { m with st := m.st.portError 3, markError := true }

/-- Both passes (R172). -/
def Commit.passes (m : Commit) (bs : List (Nat × Byte)) : Commit :=
  (passTwo bs).foldl Commit.mark ((passOne bs).foldl Commit.apply m)

/-- A holdoff of 0 expires as the commit that started it ends (R188, log 30). -/
def Commit.endHoldoff (m : Commit) : Commit :=
  if m.holdoffStarted && m.st.alert.holdoff == some 0 then m.onAlert Alert.endHoldoff else m

/-- GO_DORMANT is judged again at the end of the commit (R176). -/
def Commit.endDormant (m : Commit) : Commit :=
  if m.dormantPending then
    if m.st.mayRest then m.onState State.enterDormant else m.onState State.refuseDormant
  else m

/-- The previous-error record of a commit (R167, R174). -/
def Commit.finish (m : Commit) : State :=
  { m.st with link := { m.st.link with prevError := m.blocked || m.markError } }

/-- A WRITE commits (R172). -/
def State.commit (s : State) (w : WriteBurst) : State :=
  ((((Commit.start s).passes (appliedBytes s.link.portMode w)).endHoldoff).endDormant).finish

/-! ## Transactions (R166 to R171) -/

/-- What SDO carries for data bytes `k` on: the snapshot's bytes at the addresses of the burst (R168, R169). A READ
carries zeros from the 65th byte on; a WRITE in INCREMENT goes on with free values (log 14), and one in CIRCULATE
with its window. -/
def State.sdoData (s : State) (isWrite : Bool) (start : BitVec 16) (k : Nat) : Byte :=
  if k < 64 || (isWrite && circulates s.link.portMode) then s.readByte (burstAddr s.link.portMode start k)
  else if isWrite then Config.freeByte (s.link.freeReads + (k - 64)) else 0

/-- How many free bytes a transaction uses (log 14). -/
def freeBytesUsed (mode : Byte) (isWrite : Bool) (count : Nat) : Nat :=
  if isWrite && !circulates mode then count - 64 else 0

/-- The bytes SDO carries after the status byte (R168). -/
def State.sdoTail (s : State) : List Byte → List Byte
  | c :: h :: l :: ds =>
    if c = 0x11 ∨ c = 0x22 then
      0 :: 0 :: (List.range ds.length).map (s.sdoData (c == 0x22) (addressOf h l))
    else 0 :: 0 :: ds.map fun _ => 0
  | _ :: rest => rest.map fun _ => 0
  | [] => []

/-- The free bytes a transaction's bytes use (log 14). -/
def State.freeUse (s : State) : List Byte → Nat
  | c :: _ :: _ :: ds => if c = 0x22 then freeBytesUsed s.link.portMode true ds.length else 0
  | _ => 0

/-- The status byte is taken and SDO is driven (R167, R168). Where CS# rises within the first byte no whole byte has gone
out (log 24). -/
def State.shiftOut (s : State) (bytes : List Byte) : State :=
  { s with link := { s.link with sdo := if bytes = [] then [] else s.statusByte :: s.sdoTail bytes,
                                 freeReads := s.link.freeReads + s.freeUse bytes } }

/-- The previous-error record of a transaction that commits nothing. -/
def State.endTransaction (s : State) (error : Bool) : State :=
  { s with link := { s.link with prevError := error } }

/-- A FRAMING error (R171). -/
def State.framingError (s : State) : State := (s.portError 1).endTransaction true

/-- The transaction with the part ACTIVE (R166 to R174). -/
def State.serve (s : State) (t : RawTransaction) : State :=
  match t.framing with
  | .nothing => s
  | .read _ => (s.shiftOut t.bytes).endTransaction false
  | .write w => (s.shiftOut t.bytes).commit w
  | .error _ _ => (s.shiftOut t.bytes).framingError

/-- The link is deaf: the part is held in reset, or CS# has been low since it was left (R181). -/
def State.linkDeaf (s : State) : Bool := s.held.isSome || s.link.ignoring

/-- A transaction that asks for DORMANT finds no arrival owed: the qualifier has taken it before CS# falls (log 11). -/
def State.settleFor (s : State) (t : RawTransaction) : State :=
  match t.framing with
  | .write w => if (appliedBytes s.link.portMode w).contains (0x0004, 0x02) then s.settleQualifier else s
  | _ => s

/-- A transaction, from CS# falling to CS# rising; its fall wakes the part (R167, R193). A fall and rise with no SCK edge
between, which R166 says changes nothing, wakes a DORMANT part too, as R193 says of any fall, and does nothing else
(log 35, the model's choice). -/
def State.transact (s : State) (t : RawTransaction) : State :=
  if s.linkDeaf then s else ((s.wake .link).settleFor t).serve t

end Sys2Proof.Machine
end

