-- ==== Sys2Proof/Machine/Resets.lean ====
section
/-! DEFINITION. The two resets: what each block takes as the reset is taken, and what happens as the part leaves it
(R25, R41, R42, R65, R83, R95, R113, R114, R115, R165, R181, R195). -/

namespace Sys2Proof.Machine

/-- A string's record at a pin reset: the selector unit's part of it, and nothing else (R113). -/
def StringRec.reset (x : StringRec) : StringRec :=
  { x with sel := .atLoad, commanded := .load, stranded := false, origin := none, timer := none }

/-- The cell line at a pin reset: the line fault count is kept (R65). The model's guard fields stand. -/
def Line.reset (l : Line) : Line :=
  { Line.blank with faultCount := l.faultCount, guardScript := l.guardScript, guardReads := l.guardReads }

/-- The cell line at a power-on reset. The model's guard fields stand (log 13). -/
def Line.powerOn (l : Line) : Line := { Line.blank with guardScript := l.guardScript, guardReads := l.guardReads }

/-- The blocks as a pin reset is taken. -/
def Engine.reset (e : Engine) : Engine :=
  { e with advanceTaken := false, latest := none, qualifierOwed := none, supply := SupplyUnit.blank,
           board := Board.blank, ctxs := Vector.replicate 4 none, claims := Claims.blank, line := e.line.reset,
           strings := e.strings.map StringRec.reset, settling := none, charger := Charger.blank,
           water := Water.blank, agenda := [], raised := [] }

/-- The blocks as a power-on reset is taken. The feedback contacts are inputs and stand as they are (log 6). -/
def Engine.powerOnFrom (e : Engine) : Engine :=
  { Engine.powerOn with
    line := e.line.powerOn, settling := none,
    strings := e.strings.map fun x => { StringRec.blank with observed := x.observed } }

/-- The link as a pin reset is taken: the lock and the profile reject detail are kept (R181). -/
def Link.reset (l : Link) : Link := { l with portMode := 0, control := 0, prevError := false, portErrorDetail := 0 }

/-- The alert unit as a pin reset is taken: the enables and the holdoff word are kept, and ALERT# is released while
the part is held (R187, R195). -/
def Alert.reset (a : Alert) : Alert :=
  { a with status := 0, holdoff := none, asserted := false, power := .active, wakeSource := .none,
           wakeTimer := none }

/-- A pin reset is taken. -/
def State.takePinReset (s : State) : State :=
  { s with held := some .pin, link := s.link.reset, alert := s.alert.reset, eng := s.eng.reset }

/-- A power-on reset is taken. -/
def State.takePowerOn (s : State) : State :=
  { s with held := some .powerOn, profile := Profile.powerOn,
           link := { Link.powerOn with freeReads := s.link.freeReads },
           alert := Alert.reset { Alert.powerOn with resetCause := s.alert.resetCause },
           eng := s.eng.powerOnFrom }

/-- The event and the cause of a reset, as the part leaves it (R189, R195). -/
def Alert.leave (a : Alert) (k : ResetKind) : Alert :=
  match k with
  | .powerOn => { a.capture .powerOn with resetCause := 1 }
  | .pin => { a.capture .pinReset with resetCause := 2 }

/-- A string caught in a round by a pin reset (R42). -/
def StringRec.examine (x : StringRec) (now : Clock) : StringRec :=
  if x.inRound then { x with lastEqOutcome := some .interrupted, lastEqTime := now, inRound := false } else x

/-- The blocks as the part leaves a reset: the feedback is taken as it shows, IN_ROUND is examined, the settling
reading is timed, and a confirmed profile moves the line to ASLEEP (R42, R44, R113, R114). -/
def Engine.leave (e : Engine) (p : Profile) (contacts : Vector Contact 8) : Engine :=
  let strings := Vector.ofFn fun g =>
    { (StringRec.examine (e.str g) e.clock) with observed := contacts.get g }
  let e : Engine := { e with strings := strings, settling := some (fieldNat p fldTransfer) }
  if isConfirmed p then e.wakeFromOff else e

/-- The part leaves the reset it is held in (R181, R195). -/
def State.leaveReset (s : State) (k : ResetKind) (csLow : Bool) (contacts : Vector Contact 8) : State :=
  { s with held := none, link := { s.link with ignoring := csLow }, alert := s.alert.leave k,
           eng := s.eng.leave s.profile contacts }

end Sys2Proof.Machine
end

