-- ==== Sys2Proof/Machine/AlertCommands.lean ====
section
/-! DEFINITION. The commands of the alert unit and the resets (chapter 10). -/

namespace Sys2Proof.Machine

/-- HOLDOFF_EXPIRY (R188). -/
def execHoldoffExpiry (s : State) : Host.Outcome State Fault Refusal :=
  .next (if s.held.isNone && s.alert.holdoff.isSome then { s with alert := s.alert.endHoldoff } else s)

/-- The wake timer runs and has reached its value (R193). -/
def State.wakeDue (s : State) : Bool :=
  match s.alert.wakeTimer with
  | some d => reached d s.eng.clock
  | none => false

/-- WAKE_TIMER_EXPIRY (R193). -/
def execWakeTimerExpiry (s : State) : Host.Outcome State Fault Refusal :=
  .next (if s.held.isNone && s.wakeDue then s.wake .wakeTimer else s)

/-- SUPPLY_WAKE (R193): any change of either line wakes, so the line named does not matter (log 34). -/
def execSupplyWake (_line : SupplyLine) (s : State) : Host.Outcome State Fault Refusal :=
  .next (if s.held.isNone && supplyWakeFlag s.profile then s.wake .supplyLine else s)

/-- POWER_ON_RESET (R195; log 5). -/
def execPowerOnReset (edge : ResetEdge) (s : State) : Host.Outcome State Fault Refusal :=
  match edge with
  | .taken => .next s.takePowerOn
  | .left csLow contacts => .next (if s.held = some .powerOn then s.leaveReset .powerOn csLow contacts else s)

/-- PIN_RESET (R195; log 5). -/
def execPinReset (edge : ResetEdge) (s : State) : Host.Outcome State Fault Refusal :=
  match edge with
  | .taken => .next (if s.held.isNone then s.takePinReset else s)
  | .left csLow contacts => .next (if s.held = some .pin then s.leaveReset .pin csLow contacts else s)

end Sys2Proof.Machine
end

