-- ==== Sys2Proof/Machine/EqualiseCommands.lean ====
section
/-! DEFINITION. The timers of EQUALISE and RETURN rounds (chapter 7). -/

namespace Sys2Proof.Machine

/-- PRECHARGE_TIMEOUT (R121, R139). -/
def execPrechargeTimeout (c : CtxId) (s : State) : Host.Outcome State Fault Refusal :=
  .next (s.whenAwake fun e => e.prechargeTimeout s.profile true c)

/-- RAMP_TIMEOUT (R123). -/
def execRampTimeout (c : CtxId) (s : State) : Host.Outcome State Fault Refusal :=
  .next (s.whenAwake fun e => e.rampTimeout s.profile true c)

/-- HOLD_INTERVAL_EXPIRY (R124). -/
def execHoldIntervalExpiry (c : CtxId) (s : State) : Host.Outcome State Fault Refusal :=
  .next (s.whenAwake fun e => e.holdInterval s.profile true c)

/-- HOLD_TIME_LIMIT (R126). -/
def execHoldTimeLimit (c : CtxId) (s : State) : Host.Outcome State Fault Refusal :=
  .next (s.whenAwake fun e => e.holdTimeLimit true c)

/-- MATCH_TIMEOUT (R127). -/
def execMatchTimeout (c : CtxId) (s : State) : Host.Outcome State Fault Refusal :=
  .next (s.whenAwake fun e => e.matchTimeout s.profile true c)

end Sys2Proof.Machine
end

