-- ==== Sys2Proof/Machine/LineCommands.lean ====
section
/-! DEFINITION. The commands of the cell line (chapter 3). -/

namespace Sys2Proof.Machine

/-- WAKE_PATTERN_SENT (R45). -/
def execWakePatternSent (s : State) : Host.Outcome State Fault Refusal :=
  .next (s.whenAwake fun e => e.wakePatternSent s.profile)

/-- WAKE_SETTLE_END (R45). -/
def execWakeSettleEnd (s : State) : Host.Outcome State Fault Refusal :=
  .next (s.whenAwake fun e => e.wakeSettleEnd s.profile)

/-- IDLE_TIMER_EXPIRY (R46). -/
def execIdleTimerExpiry (s : State) : Host.Outcome State Fault Refusal := .next (s.whenAwake Engine.idleExpiry)

/-- SLEEP_SENT (R46). -/
def execSleepSent (s : State) : Host.Outcome State Fault Refusal := .next (s.whenAwake Engine.sleepSent)

/-- CALL_SENT (R51). -/
def execCallSent (s : State) : Host.Outcome State Fault Refusal :=
  .next (s.whenAwake fun e => e.callSent s.profile)

/-- FRAME_RECEIVED (R55). -/
def execFrameReceived (levels : List LineLevel) (s : State) : Host.Outcome State Fault Refusal :=
  .next (s.whenAwake fun e => e.frame levels)

/-- SWEEP_WINDOW_END (R53). -/
def execSweepWindowEnd (s : State) : Host.Outcome State Fault Refusal :=
  .next (s.whenAwake fun e => e.windowEnd s.profile)

/-- RECOVERY_EXPIRY (R61). -/
def execRecoveryExpiry (s : State) : Host.Outcome State Fault Refusal := .next (s.whenAwake Engine.recoveryExpiry)

end Sys2Proof.Machine
end

