-- ==== Sys2Proof/Machine/LinkCommands.lean ====
section
/-! DEFINITION. The commands of the controller link (chapter 9): each carries a whole transaction, and each row of
the table names the byte it is sent for (log 3, log 4). -/

namespace Sys2Proof.Machine

/-- READ (R168). -/
def execRead (t : ReadBurst) (s : State) : Host.Outcome State Fault Refusal := .next (s.transact t.raw)

/-- FRAMING_ERROR (R171). -/
def execFramingError (t : RawTransaction) (s : State) : Host.Outcome State Fault Refusal := .next (s.transact t)

/-- REGISTER_WRITE (R173). -/
def execRegisterWrite (w : WriteBurst) (s : State) : Host.Outcome State Fault Refusal := .next (s.transact w.raw)

/-- BODY_WRITE (R3). -/
def execBodyWrite (w : WriteBurst) (s : State) : Host.Outcome State Fault Refusal := .next (s.transact w.raw)

/-- PROFILE_WRITE (R178). -/
def execProfileWrite (w : WriteBurst) (s : State) : Host.Outcome State Fault Refusal := .next (s.transact w.raw)

/-- EVENT_STATUS_CLEAR (R183). -/
def execEventStatusClear (w : WriteBurst) (s : State) : Host.Outcome State Fault Refusal :=
  .next (s.transact w.raw)

/-- STAND_DOWN (R24). -/
def execStandDown (w : WriteBurst) (s : State) : Host.Outcome State Fault Refusal := .next (s.transact w.raw)

/-- GO_DORMANT (R190). -/
def execGoDormant (w : WriteBurst) (s : State) : Host.Outcome State Fault Refusal := .next (s.transact w.raw)

/-- CONFIRM_PROFILE (R179). -/
def execConfirmProfile (w : WriteBurst) (s : State) : Host.Outcome State Fault Refusal := .next (s.transact w.raw)

/-- POST (R8). -/
def execPost (w : WriteBurst) (s : State) : Host.Outcome State Fault Refusal := .next (s.transact w.raw)

/-- RELEASE (R22). -/
def execRelease (w : WriteBurst) (s : State) : Host.Outcome State Fault Refusal := .next (s.transact w.raw)

/-- WITHDRAW (R23). -/
def execWithdraw (w : WriteBurst) (s : State) : Host.Outcome State Fault Refusal := .next (s.transact w.raw)

/-- CS_RISE_AFTER_RESET (R181). -/
def execCsRiseAfterReset (s : State) : Host.Outcome State Fault Refusal :=
  .next (if s.held.isNone then { s with link := { s.link with ignoring := false } } else s)

end Sys2Proof.Machine
end

