-- ==== Sys2Proof/Machine/SiteCommands.lean ====
section
/-! DEFINITION. The commands of the part clock, the measurement unit and the selector unit (chapters 5 and 6). -/

namespace Sys2Proof.Machine

/-- PART_CLOCK_ADVANCE (R93): the clock advances without a sample, while the part is DORMANT or held in reset
(log 33). -/
def execPartClockAdvance (s : State) : Host.Outcome State Fault Refusal :=
  .next (if s.awake then s else { s with eng := { s.eng with clock := s.eng.clock + 1 } })

/-- SAMPLE (R84). A sample that the qualifier has yet to take is taken by it first (log 11). -/
def execSample (r : Readings) (order : List Consumer) (s : State) : Host.Outcome State Fault Refusal :=
  .next (if s.awake then s.settleQualifier.act fun e => e.takeSample s.profile r order else s)

/-- SUPPLY_LINE_QUALIFIED (R89, log 11): the qualifier takes the sample it has yet to take. -/
def execSupplyLineQualified (s : State) : Host.Outcome State Fault Refusal :=
  .next (if s.awake then s.settleQualifier else s)

/-- START_BY_EXPIRY (R19). -/
def execStartByExpiry (n : SlotId) (s : State) : Host.Outcome State Fault Refusal :=
  .next (s.whenAwake fun e => e.startByExpiry true n)

/-- REST_ENDED (R112). -/
def execRestEnded (g : StringId) (s : State) : Host.Outcome State Fault Refusal :=
  .next (s.whenFree fun e => e.restEnded s.awake g)

/-- FEEDBACK_CHANGE (R97): one that shows what is observed already is no change. -/
def execFeedbackChange (g : StringId) (shown : Contact) (s : State) : Host.Outcome State Fault Refusal :=
  .next (s.whenFree fun e => if (e.str g).observed = shown then e else e.feedback s.profile g shown)

/-- TRANSFER_TIMEOUT (R103). -/
def execTransferTimeout (g : StringId) (s : State) : Host.Outcome State Fault Refusal :=
  .next (s.whenFree fun e => e.transferTimeout s.profile g)

/-- SETTLING_READING (R114). -/
def execSettlingReading (s : State) : Host.Outcome State Fault Refusal :=
  .next (s.whenFree fun e => e.settlingReading s.profile)

end Sys2Proof.Machine
end

