-- ==== Sys2Proof/Machine/WaterCommands.lean ====
section
/-! DEFINITION. The commands of the water path and of watering rounds (chapter 8). -/

namespace Sys2Proof.Machine

/-- FLOW_PULSE (R148). -/
def execFlowPulse (s : State) : Host.Outcome State Fault Refusal :=
  .next (s.whenFree fun e => e.flowPulse s.profile)

/-- DRY_TIMER_EXPIRY (R155). -/
def execDryTimerExpiry (c : CtxId) (s : State) : Host.Outcome State Fault Refusal :=
  .next (s.whenAwake fun e => e.dryExpiry s.profile true c)

/-- STOP_TIMER_EXPIRY (R156). -/
def execStopTimerExpiry (c : CtxId) (s : State) : Host.Outcome State Fault Refusal :=
  .next (s.whenAwake fun e => e.stopExpiry s.profile true c)

/-- FILL_TIMEOUT (R156). -/
def execFillTimeout (c : CtxId) (s : State) : Host.Outcome State Fault Refusal :=
  .next (s.whenAwake fun e => e.fillTimeout s.profile true c)

/-- COAST_ENDED (R148). -/
def execCoastEnded (s : State) : Host.Outcome State Fault Refusal :=
  .next (s.whenAwake fun e => e.coastEnded true)

/-- VERIFY_TIMER_EXPIRY (R158). -/
def execVerifyTimerExpiry (c : CtxId) (s : State) : Host.Outcome State Fault Refusal :=
  .next (s.whenAwake fun e => e.verifyExpiry s.profile true c)

end Sys2Proof.Machine
end

