-- ==== Sys2Proof/Machine/Dispatch.lean ====
section
/-! DEFINITION. One arm per command, each one call of its meaning. -/

namespace Sys2Proof.Machine

/-- The effect of a command. -/
def exec (i : Instr) (s : State) : Host.Outcome State Fault Refusal :=
  match i with
  | .read t => Sys2Proof.Machine.execRead t s
  | .framingError t => Sys2Proof.Machine.execFramingError t s
  | .registerWrite w => Sys2Proof.Machine.execRegisterWrite w s
  | .bodyWrite w => Sys2Proof.Machine.execBodyWrite w s
  | .profileWrite w => Sys2Proof.Machine.execProfileWrite w s
  | .eventStatusClear w => Sys2Proof.Machine.execEventStatusClear w s
  | .standDown w => Sys2Proof.Machine.execStandDown w s
  | .goDormant w => Sys2Proof.Machine.execGoDormant w s
  | .confirmProfile w => Sys2Proof.Machine.execConfirmProfile w s
  | .post w => Sys2Proof.Machine.execPost w s
  | .release w => Sys2Proof.Machine.execRelease w s
  | .withdraw w => Sys2Proof.Machine.execWithdraw w s
  | .startByExpiry n => Sys2Proof.Machine.execStartByExpiry n s
  | .restEnded g => Sys2Proof.Machine.execRestEnded g s
  | .sample r order => Sys2Proof.Machine.execSample r order s
  | .supplyLineQualified => Sys2Proof.Machine.execSupplyLineQualified s
  | .holdTimeLimit c => Sys2Proof.Machine.execHoldTimeLimit c s
  | .feedbackChange g shown => Sys2Proof.Machine.execFeedbackChange g shown s
  | .transferTimeout g => Sys2Proof.Machine.execTransferTimeout g s
  | .settlingReading => Sys2Proof.Machine.execSettlingReading s
  | .wakePatternSent => Sys2Proof.Machine.execWakePatternSent s
  | .wakeSettleEnd => Sys2Proof.Machine.execWakeSettleEnd s
  | .idleTimerExpiry => Sys2Proof.Machine.execIdleTimerExpiry s
  | .sleepSent => Sys2Proof.Machine.execSleepSent s
  | .callSent => Sys2Proof.Machine.execCallSent s
  | .frameReceived levels => Sys2Proof.Machine.execFrameReceived levels s
  | .sweepWindowEnd => Sys2Proof.Machine.execSweepWindowEnd s
  | .recoveryExpiry => Sys2Proof.Machine.execRecoveryExpiry s
  | .prechargeTimeout c => Sys2Proof.Machine.execPrechargeTimeout c s
  | .rampTimeout c => Sys2Proof.Machine.execRampTimeout c s
  | .holdIntervalExpiry c => Sys2Proof.Machine.execHoldIntervalExpiry c s
  | .matchTimeout c => Sys2Proof.Machine.execMatchTimeout c s
  | .flowPulse => Sys2Proof.Machine.execFlowPulse s
  | .dryTimerExpiry c => Sys2Proof.Machine.execDryTimerExpiry c s
  | .stopTimerExpiry c => Sys2Proof.Machine.execStopTimerExpiry c s
  | .fillTimeout c => Sys2Proof.Machine.execFillTimeout c s
  | .coastEnded => Sys2Proof.Machine.execCoastEnded s
  | .verifyTimerExpiry c => Sys2Proof.Machine.execVerifyTimerExpiry c s
  | .holdoffExpiry => Sys2Proof.Machine.execHoldoffExpiry s
  | .wakeTimerExpiry => Sys2Proof.Machine.execWakeTimerExpiry s
  | .supplyWake line => Sys2Proof.Machine.execSupplyWake line s
  | .powerOnReset edge => Sys2Proof.Machine.execPowerOnReset edge s
  | .pinReset edge => Sys2Proof.Machine.execPinReset edge s
  | .partClockAdvance => Sys2Proof.Machine.execPartClockAdvance s
  | .csRiseAfterReset => Sys2Proof.Machine.execCsRiseAfterReset s

end Sys2Proof.Machine
end

