-- ==== Sys2Proof/Machine/Step.lean ====
section
/-! DEFINITION. One step: the command at the front of the queue (log 2). -/

namespace Sys2Proof.Machine

/-- The state with its queue replaced. -/
def State.withQueue (s : State) (q : List Instr) : State := { s with pending := q }

/-- One step: the command at the front of the queue is taken with the queue's rest; with nothing waiting, the part
idles (log 2). -/
def step (s : State) : Host.Outcome State Fault Refusal :=
  match s.pending with
  | [] => .next s
  | i :: rest => exec i (s.withQueue rest)

/-- The state with the command a word spells put at the front of its queue; unchanged where the word spells none
(log 1). -/
def State.withFetchWord (s : State) (nbits w : Nat) : State :=
  match decodeTableWord nbits w with
  | some i => s.withQueue (i :: s.pending)
  | none => s

end Sys2Proof.Machine
end

