-- ==== Sys2Proof/Safety.lean ====
section
/-! DEFINITION. What it is for a state to be in order: the laws the manual gives the part as a whole, and the
conditions statements are made under. -/

namespace Sys2Proof.Machine

/-! ## Conditions -/

/-- No work is waiting and no event is waiting to be judged, as between any two commands (log 15). -/
abbrev State.calm (s : State) : Prop := s.eng.agenda = [] ∧ s.eng.raised = []

/-- The part is ACTIVE, not held in reset, and calm. -/
abbrev State.attending (s : State) : Prop := s.awake = true ∧ s.calm

/-- The part is ACTIVE, and its link takes transactions. -/
abbrev State.linkUp (s : State) : Prop := s.linkDeaf = false ∧ s.alert.power = .active

/-- No order waits and no context is busy. -/
abbrev State.unburdened (s : State) : Prop := s.eng.board.queue = [] ∧ ∀ c, s.eng.ctx c = none

/-- Context `c` is busy with the round `r`, and every claim a round drives is its own: the charger, and the string
`g`, which is fitted and current. -/
abbrev State.drives (s : State) (c : CtxId) (r : Round) (g : StringId) : Prop :=
  s.eng.ctx c = some r ∧ r.cur = some g ∧ s.eng.claims.charger = some c ∧ s.eng.owner g = some c
    ∧ isFitted s.profile g = true

/-- Context `c` alone is busy. -/
abbrev State.onlyBusy (s : State) (c : CtxId) : Prop := ∀ d, d ≠ c → s.eng.ctx d = none

/-- The command is one of the ten WRITE rows, and its transaction is `w`. -/
def Sends (i : Instr) (w : WriteBurst) : Prop :=
  i = .registerWrite w ∨ i = .bodyWrite w ∨ i = .profileWrite w ∨ i = .eventStatusClear w ∨ i = .standDown w
    ∨ i = .goDormant w ∨ i = .confirmProfile w ∨ i = .post w ∨ i = .release w ∨ i = .withdraw w

/-! ## What a one-byte WRITE leaves -/

/-- The part once SDO has carried the status byte, the two zeros of the address and the echo of one byte (R168). -/
def State.echo (s : State) (a : BitVec 16) : State :=
  { s with link := { s.link with sdo := [s.statusByte, 0, 0, s.readByte (low13 a)] } }

/-- The previous-error record after a transaction (R167). -/
def State.ended (s : State) (error : Bool) : State := { s with link := { s.link with prevError := error } }

/-- A transaction whose only effect is one port error of a kind: the detail byte and PORT_ERROR (R173, R174). -/
def State.erred (s : State) (detail : Byte) : State :=
  { s with link := { s.link with portErrorDetail := detail, prevError := true },
           alert := s.alert.capture .portError }

/-! ## Laws -/

/-- ALERT# is asserted exactly while a status bit is set, no holdoff runs and the part is not held in reset (R187). -/
def State.alertOk (s : State) : Prop :=
  s.alert.asserted = (s.alert.status != 0 && s.alert.holdoff.isNone && s.held.isNone)

/-- At most one string's selector is commanded to EQUALISE (R96). -/
def Engine.oneEqualise (e : Engine) : Prop :=
  ∀ g k : StringId, (e.str g).commanded = .equalise → (e.str k).commanded = .equalise → g = k

/-- The pump runs exactly while a valve is open (R146). -/
def Engine.pumpOk (e : Engine) : Prop := e.water.pump = e.water.valve.isSome

/-- The charger is enabled only while its claim is held (R115). -/
def Engine.chargerOk (e : Engine) : Prop := e.charger.enable = true → e.claims.charger ≠ none

/-- The port mode word and the lock word hold defined values (R177, R197). -/
def Link.wordsOk (l : Link) : Prop := portModeOk l.portMode = true ∧ (l.lock = 0x00 ∨ l.lock = 0xA5)

/-- A step that answers next. -/
def stepsTo (s t : State) : Prop := step s = .next t

end Sys2Proof.Machine
end

