-- ==== Sys2Proof/Certificates/Slice0/Obligations.lean ====
section
/-! DEFINITION. The statements for the provers, in the order of the manual's chapters after the step itself. Each
names the rules it follows; what is the model's own choice is named with its log entry. -/

open Sys2Proof Sys2Proof.Machine

/-! ## The step -/

/-- The command at the front of the queue is the one that runs, with the queue's rest waiting; with nothing waiting the
part idles (log 2: the queue is the model's own). -/
def Obligations.StepRunsTheFrontCommand : Prop :=
  (∀ (s : State) (i : Instr) (rest : List Instr), s.pending = i :: rest → step s = exec i (s.withQueue rest))
    ∧ ∀ s : State, s.pending = [] → step s = .next s

/-- Every command, with every operand and in every state, ends in a next state: what the link cannot take is a port
error (R171, R173, R174), what the board cannot take a refusal (R8), what a selector or the line cannot do a fault that is
a state of the part (R59, R104), and an event that arises where the manual gives it no effect changes nothing (log 8).
The queue of commands, the model's own (log 2), is as it was: the step has taken the command from its front. -/
def Obligations.EveryCommandCompletes : Prop :=
  ∀ (i : Instr) (s : State), ∃ t, exec i s = .next t ∧ t.pending = s.pending

/-! ## The controller link (chapter 9) -/

/-- READ: SDO carries the status byte, two zeros and the snapshot at the addresses of the burst; no byte of the part
changes but the previous-error record, which is cleared. A READ that ends after its command byte, or within its address,
is no error: SDO has carried the status byte, and a zero for the address byte (R166 to R171). -/
def Obligations.ReadsCarryTheSnapshot : Prop :=
  ∀ (s : State), s.linkUp →
    (∀ (a : BitVec 16) (n : Nat), n ≤ 64 → exec (.read (.data a n)) s = .next
      { s with link := { s.link with
          sdo := s.statusByte :: 0 :: 0 ::
            (List.range n).map fun k => s.readByte (burstAddr s.link.portMode a k),
          prevError := false } })
    ∧ exec (.read .commandOnly) s = .next { s with link := { s.link with sdo := [s.statusByte], prevError := false } }
    ∧ ∀ h : Byte, exec (.read (.addressHigh h)) s
        = .next { s with link := { s.link with sdo := [s.statusByte, 0], prevError := false } }

/-- FRAMING_ERROR: nothing is written and no mark request is made; the detail byte, the previous-error record and
PORT_ERROR report it, and SDO has carried the status byte first, unless CS# rises within the first byte, when it has
carried no whole byte (R168, R171, R174; log 24). A transaction has such an error unless it is made of whole bytes and is
a READ of at most 64 data bytes, ended at any byte, or a WRITE of 1 to 64, which commits; a fall and rise of CS# with no
bit between is no transaction (R166). A WRITE row whose burst has no data byte, or more than 64, is such a transaction
too (log 3, the model's choice). -/
def Obligations.FramingErrorWritesNothing : Prop :=
  (∀ (s : State) (t : RawTransaction) (c : Option Byte) (d : Option (BitVec 16 × List Byte)), s.linkUp →
    t.framing = .error c d → ∃ (tail : List Byte) (k : Nat),
      exec (.framingError t) s = .next
        (State.erred { s with link := { s.link with
          sdo := if t.bytes = [] then [] else s.statusByte :: tail, freeReads := k } } 1))
  ∧ (∀ t : RawTransaction, (∃ c d, t.framing = .error c d) ↔
      ¬ (t.extraBits = 0 ∧ (t.bytes = [] ∨ (∃ rest, t.bytes = 0x11 :: rest ∧ rest.length ≤ 66)
        ∨ ∃ h l ds, t.bytes = 0x22 :: h :: l :: ds ∧ 1 ≤ ds.length ∧ ds.length ≤ 64)))
  ∧ (∀ (h l : Byte) (ds : List Byte), 1 ≤ ds.length → ds.length ≤ 64 →
      RawTransaction.framing ⟨0x22 :: h :: l :: ds, 0⟩ = .write ⟨h ++ l, ds⟩)
  ∧ ∀ (s : State) (i : Instr) (w : WriteBurst), s.linkUp → Sends i w → w.data.length = 0 ∨ 64 < w.data.length →
      exec i s = exec (.framingError w.raw) s

/-- Every transaction wakes a DORMANT part first: the power state is ACTIVE, the wake source is the link and the wake
timer is cancelled; then it is as with the part ACTIVE (R167, R193). That a fall and rise of CS# with no bit between
wakes the part as well is the model's choice (log 35). While the part is held in reset, or CS# has been low since it was
left, a transaction changes nothing (R181). -/
def Obligations.TransactionsWakeThePart : Prop :=
  ∀ (s : State) (i : Instr),
    ((∃ t, i = .read t) ∨ (∃ t, i = .framingError t) ∨ ∃ w, i = .registerWrite w ∨ i = .bodyWrite w
      ∨ i = .profileWrite w ∨ i = .eventStatusClear w ∨ i = .standDown w ∨ i = .goDormant w
      ∨ i = .confirmProfile w ∨ i = .post w ∨ i = .release w ∨ i = .withdraw w) →
    (s.linkDeaf = true → exec i s = .next s)
      ∧ (s.alert.power = .dormant → s.linkDeaf = false →
          exec i s = exec i { s with alert := { s.alert with
            power := .active, wakeSource := .link, wakeTimer := none } })

/-- A WRITE applies each address once, in ascending address, with the last value shifted in for it; slot marks come
after every other byte, in ascending slot number: pass 1 takes exactly the applied bytes that are no slot marks, pass 2
exactly those that are, each in ascending address (R172). Each of the ten WRITE rows commits its whole burst, whatever
bytes it holds (log 3, the model's choice); the qualifier has taken the latest sample first, if the burst asks for
DORMANT (log 11, the model's choice). -/
def Obligations.CommitAppliesEachAddressOnce : Prop :=
  ∀ (mode : Byte) (w : WriteBurst),
    let applied := appliedBytes mode w
    let mark (a : Nat) : Prop := ∃ n : SlotId, a = 0x0100 + 64 * n.val
    (applied.map Prod.fst).Pairwise (· < ·)
      ∧ (∀ (a : Nat) (v : Byte), (a, v) ∈ applied ↔
          ((burstBytes mode w.addr 0 w.data).reverse.find? fun x => x.1 == a) = some (a, v))
      ∧ ((passOne applied).map Prod.fst).Pairwise (· < ·) ∧ (∀ x, x ∈ passOne applied ↔ x ∈ applied ∧ ¬ mark x.1)
      ∧ ((passTwo applied).map Prod.fst).Pairwise (· < ·) ∧ (∀ x, x ∈ passTwo applied ↔ x ∈ applied ∧ mark x.1)
      ∧ ∀ (s : State) (i : Instr), s.linkUp → Sends i w → 1 ≤ w.data.length → w.data.length ≤ 64 →
          mode = s.link.portMode →
          let found := if (0x0004, 0x02#8) ∈ applied then s.settleQualifier else s
          exec i s = .next
            (((((passTwo applied).foldl Commit.mark
              ((passOne applied).foldl Commit.apply
                (Commit.start (found.shiftOut w.raw.bytes)))).endHoldoff).endDormant).finish)

/-- The port mode word (R197): a value with any of bits 7:3 set is dropped with BLOCKED; any other is kept and reads
back as written. Bit 0 is the mode and bits 2:1 are W less one; each transaction reads the word as it finds it, so a
write governs later transactions alone; it is 0x00 after both resets. -/
def Obligations.PortModeWord : Prop :=
  (∀ (s : State) (a : BitVec 16) (v : Byte), s.linkUp → low13 a = 0x0003 →
    exec (.registerWrite ⟨a, [v]⟩) s = .next
      (if v &&& 0xF8 = 0 then { (s.echo a).ended false with link := { ((s.echo a).ended false).link with portMode := v } }
       else (s.echo a).erred 2))
  ∧ (∀ s : State, s.readByte 0x0003 = s.link.portMode)
  ∧ (∀ (s : State) (a : BitVec 16) (n : Nat), s.linkUp → n ≤ 64 → ∃ t, exec (.read (.data a n)) s = .next t
      ∧ t.link.sdo = s.statusByte :: 0 :: 0 ::
          (List.range n).map fun k => s.readByte (burstAddr s.link.portMode a k))
  ∧ (∀ (mode : Byte) (a : BitVec 16) (k : Nat),
      burstAddr mode a k = (low13 a + if mode.getLsbD 0 then k % ((mode.toNat / 2) % 4 + 1) else k) % 8192)
  ∧ windowSize 0x07 = 4 ∧ circulates 0x07 = true ∧ windowSize 0x00 = 1 ∧ circulates 0x00 = false
  ∧ State.reset.link.portMode = 0x00
  ∧ (∀ s : State, s.takePinReset.link.portMode = 0x00 ∧ s.takePowerOn.link.portMode = 0x00)

/-- The lock word, the holdoff word and the capture enables take what is written: the lock only 0x00 and 0xA5, the
others any value; nothing else changes (R173, R177, R184, R188). -/
def Obligations.RegisterWordsTakeTheirValues : Prop :=
  ∀ (s : State) (a : BitVec 16) (v : Byte), s.linkUp →
    (low13 a = 0x0005 → exec (.registerWrite ⟨a, [v]⟩) s = .next
      (if v = 0x00 ∨ v = 0xA5 then
        { (s.echo a).ended false with link := { ((s.echo a).ended false).link with lock := v } }
       else (s.echo a).erred 2))
    ∧ (low13 a = 0x0006 → exec (.registerWrite ⟨a, [v]⟩) s = .next
        { (s.echo a).ended false with alert := { s.alert with holdoffWord := v } })
    ∧ (low13 a = 0x0014 → exec (.registerWrite ⟨a, [v]⟩) s = .next
        { (s.echo a).ended false with alert := { s.alert with enables := s.alert.enables.extractLsb' 8 8 ++ v } })
    ∧ (low13 a = 0x0015 → exec (.registerWrite ⟨a, [v]⟩) s = .next
        { (s.echo a).ended false with alert := { s.alert with enables := v ++ s.alert.enables.extractLsb' 0 8 } })

/-- A byte that no owner keeps is dropped with BLOCKED and leaves everything else as it was (R3, R173, R175, R196): the
read-only port words, unassigned addresses, result sections, the string table, the cell table, the context view, and a
value of the control word that names no command. -/
def Obligations.UnkeptBytesAreBlocked : Prop :=
  ∀ (s : State) (a : BitVec 16) (v : Byte), s.linkUp →
    (low13 a < 0x0003 ∨ (0x0007 ≤ low13 a ∧ low13 a ≤ 0x0011) ∨ (0x0016 ≤ low13 a ∧ low13 a ≤ 0x003F)
      ∨ (0x0080 ≤ low13 a ∧ low13 a ≤ 0x00FF) ∨ 0x0500 ≤ low13 a
      ∨ (0x0100 ≤ low13 a ∧ low13 a ≤ 0x04FF ∧ 32 ≤ low13 a % 64)
      ∨ (low13 a = 0x0004 ∧ v ≠ 0x01 ∧ v ≠ 0x02 ∧ v ≠ 0x03)) →
    exec (.registerWrite ⟨a, [v]⟩) s = .next ((s.echo a).erred 2)

/-- BODY_WRITE: a byte of an order body is kept while its slot is FREE, and nothing else changes; otherwise it is
dropped with BLOCKED (R3). -/
def Obligations.BodyBytesNeedAFreeSlot : Prop :=
  ∀ (s : State) (a : BitVec 16) (v : Byte) (n : SlotId) (k : Nat) (hk : k < 31), s.linkUp →
    low13 a = 0x0100 + 64 * n.val + 1 + k →
    exec (.bodyWrite ⟨a, [v]⟩) s = .next
      (if (s.eng.slot n).mark = .free then
        let x : Slot := { s.eng.slot n with body := (s.eng.slot n).body.set k v hk }
        { (s.echo a).ended false with eng := s.eng.putSlot n x }
       else (s.echo a).erred 2)

/-- PROFILE_WRITE (R178): a byte is dropped with BLOCKED while an order is QUEUED or RUNNING, while the lock reads
locked, and at the confirmed flag. A kept byte equal to what it replaces changes nothing, a cells-fitted's copy
included (where R111 is read by R178: log 37, the model's inference). A kept change of a byte that is neither the fitted
mask nor a cells-fitted clears the confirmed flag and changes that byte alone. -/
def Obligations.ProfileBytesAreGuarded : Prop :=
  ∀ (s : State) (a : BitVec 16) (v : Byte) (k : Nat), s.linkUp → s.calm → k < 64 → low13 a = 0x0040 + k →
    ((s.eng.noOrders = false ∨ s.link.lock = 0xA5 ∨ k = 0x3F) →
      exec (.profileWrite ⟨a, [v]⟩) s = .next ((s.echo a).erred 2))
    ∧ (s.eng.noOrders = true → s.link.lock ≠ 0xA5 → k ≠ 0x3F →
      (profileByte s.profile k = v → exec (.profileWrite ⟨a, [v]⟩) s = .next ((s.echo a).ended false))
      ∧ (profileByte s.profile k ≠ v → (k = 1 ∨ 10 ≤ k) →
        exec (.profileWrite ⟨a, [v]⟩) s = .next
          { (s.echo a).ended false with
            profile := putProfileByte (putProfileByte s.profile k v) 0x3F 0x00 }))

/-- A kept change of a string's cells-fitted writes the string's copy, sets its census to UNKNOWN with an empty set and
clears the confirmed flag (R77, R111, R178), where no queued order waits on the census. -/
def Obligations.CellsFittedChangeLosesTheCensus : Prop :=
  ∀ (s : State) (a : BitVec 16) (v : Byte) (g : StringId), s.linkUp → s.calm → s.eng.noOrders = true →
    s.eng.board.queue = [] → s.link.lock ≠ 0xA5 → low13 a = 0x0042 + g.val → profileByte s.profile (2 + g.val) ≠ v →
    exec (.profileWrite ⟨a, [v]⟩) s = .next
      (let x : StringRec := { s.eng.str g with cellsCopy := v, census := .unknown, censusSet := 0 }
       { (s.echo a).ended false with
         profile := putProfileByte (putProfileByte s.profile (2 + g.val) v) 0x3F 0x00,
         eng := s.eng.putStr g x })

/-- A kept change of the fitted mask clears the confirmed flag. A string that joins the mask while its selector is at
rest in a position it is not observed at becomes FAULTED, its outputs de-energised; every other string stays as it was
(R104, R110). No order waits and no context is busy. -/
def Obligations.FittedMaskChangeExaminesJoiners : Prop :=
  ∀ (s : State) (a : BitVec 16) (v : Byte), s.linkUp → s.calm → s.unburdened → s.eng.noOrders = true →
    s.link.lock ≠ 0xA5 → low13 a = 0x0040 → fittedMask s.profile ≠ v →
    ∃ t, exec (.profileWrite ⟨a, [v]⟩) s = .next t
      ∧ t.profile = putProfileByte (putProfileByte s.profile 0 v) 0x3F 0x00
      ∧ t.link = ((s.echo a).ended false).link
      ∧ (∀ g : StringId, t.eng.str g =
          if v.getLsbD g.val = true ∧ isFitted s.profile g = false
              ∧ ((s.eng.str g).sel = .atLoad ∧ (s.eng.str g).observed ≠ .load
                ∨ (s.eng.str g).sel = .atOpen ∧ (s.eng.str g).observed ≠ .opened
                ∨ (s.eng.str g).sel = .atEq ∧ (s.eng.str g).observed ≠ .equalise) then
            { s.eng.str g with sel := .faulted, commanded := .load, stranded := false, timer := none, origin := none,
                               flags := (s.eng.str g).flags ||| 0x01 }
          else s.eng.str g)
      ∧ t.eng.board = s.eng.board ∧ t.eng.cells = s.eng.cells ∧ t.eng.water = s.eng.water ∧ t.eng.line = s.eng.line

/-- CONFIRM_PROFILE with every field in order sets the confirmed flag, reads back 0x80, writes every string's
cells-fitted copy and moves an OFF line to ASLEEP (R44, R111, R175, R179). -/
def Obligations.ConfirmationPasses : Prop :=
  ∀ (s : State) (a : BitVec 16), s.linkUp → low13 a = 0x0004 → profileReject s.profile = none →
    ∃ t, exec (.confirmProfile ⟨a, [0x03]⟩) s = .next t
      ∧ t.profile = putProfileByte s.profile 0x3F 0x01
      ∧ t.link = { (s.echo a).link with control := 0x80, prevError := false } ∧ t.alert = s.alert
      ∧ t.eng.line = { s.eng.line with state := if s.eng.line.state = .off then .asleep else s.eng.line.state }
      ∧ (∀ g : StringId, t.eng.str g = { s.eng.str g with cellsCopy := profileByte s.profile (2 + g.val) })
      ∧ t.eng.board = s.eng.board ∧ t.eng.ctxs = s.eng.ctxs ∧ t.eng.claims = s.eng.claims ∧ t.eng.cells = s.eng.cells
      ∧ t.eng.water = s.eng.water ∧ t.eng.charger = s.eng.charger ∧ t.eng.supply = s.eng.supply
      ∧ t.eng.clock = s.eng.clock

/-- CONFIRM_PROFILE with a field that fails clears the confirmed flag, reads back 0x81, names the field's offset and
hands PROFILE_REJECT; nothing else changes (R179, R180, R186). The field is the first that lies outside its range or
misses what is also required of it. The fields, in the order of the check, each with its offset, its value, the ends of
its range and whether what is also required holds, are the table of R179, laid out as section 11.3 says. -/
def Obligations.ConfirmationFails : Prop :=
  (∀ (s : State) (a : BitVec 16) (k : Nat), s.linkUp → low13 a = 0x0004 → profileReject s.profile = some k →
    exec (.confirmProfile ⟨a, [0x03]⟩) s = .next
      { (s.echo a).ended false with
        profile := putProfileByte s.profile 0x3F 0x00,
        link := { ((s.echo a).ended false).link with control := 0x81, rejectDetail := BitVec.ofNat 8 k },
        alert := s.alert.capture .profileReject })
  ∧ (∀ (p : Profile) (before after : List (ProfileField × Bool)) (f : ProfileField) (also : Bool),
      profileChecks p = before ++ (f, also) :: after →
      (∀ x ∈ before, x.1.low ≤ fieldRaw p x.1 ∧ fieldRaw p x.1 ≤ x.1.high ∧ x.2 = true) →
      (fieldRaw p f < f.low ∨ f.high < fieldRaw p f ∨ also = false) → profileReject p = some f.offset)
  ∧ ∀ p : Profile,
      let b (k : Nat) : Int := (profileByte p k).toNat
      let w (k : Nat) : Int := b k + 256 * b (k + 1)
      let t (k : Nat) : Int := if w k < 32768 then w k else w k - 65536
      let fitted (g : StringId) : Bool := (profileByte p 0x00).getLsbD g.val
      (profileChecks p).map (fun x => (x.1.offset, fieldRaw p x.1, x.1.low, x.1.high, x.2)) =
        [(0x00, b 0x00, 0, 255, b 0x00 != 0), (0x01, b 0x01, 1, 7, decide (b 0x01 < (allStrings.filter fitted).length))]
        ++ allStrings.map (fun g => (2 + g.val, b (2 + g.val), 0, 24, !fitted g || decide (1 ≤ b (2 + g.val))))
        ++ [(0x0A, w 0x0A, 2400, 3000, true), (0x0C, t 0x0C, 250, 650, decide (t 0x0C ≤ t 0x0E)),
            (0x0E, t 0x0E, 300, 700, true), (0x10, b 0x10, 0, 6, true), (0x11, w 0x11, 100, 2000, true),
            (0x13, w 0x13, 100, 2000, true), (0x15, w 0x15, 10, 300, true), (0x17, b 0x17, 5, 240, true),
            (0x18, w 0x18, 10, 600, true), (0x1A, b 0x1A, 1, 30, true), (0x1B, w 0x1B, 0, 1440, true),
            (0x1D, w 0x1D, 100, 2000, true), (0x1F, w 0x1F, 10, 600, true), (0x21, b 0x21, 5, 100, true),
            (0x22, w 0x22, 10, 600, true), (0x24, b 0x24, 1, 60, true), (0x25, b 0x25, 1, 50, true),
            (0x26, b 0x26, 5, 120, true), (0x27, b 0x27, 2, 60, true), (0x28, b 0x28, 1, 30, true),
            (0x29, w 0x29, 10, 600, true), (0x2B, w 0x2B, 0, 1440, true), (0x2D, b 0x2D, 0, 255, decide (b 0x2D < 8))]

/-! ## The alert unit (chapter 10) -/

/-- EVENT_STATUS_CLEAR: a byte of the status word clears each status bit at which it holds a one. If one of them was
set, ALERT# is released and the holdoff starts for the time the holdoff word gives; a holdoff of 0 is over at once, and
the line is asserted if a bit remains. If none was set, no holdoff starts (R183, R187, R188). -/
def Obligations.StatusBitsAreClearedByOnes : Prop :=
  ∀ (s : State) (a : BitVec 16) (v : Byte) (m : BitVec 16), s.linkUp →
    (low13 a = 0x0012 ∧ m = (0 : Byte) ++ v ∨ low13 a = 0x0013 ∧ m = v ++ (0 : Byte)) →
    exec (.eventStatusClear ⟨a, [v]⟩) s = .next
      (let left : BitVec 16 := s.alert.status &&& ~~~ m
       let after : Alert :=
         if s.alert.status &&& m = 0 then
           { s.alert with status := left, asserted := left != 0 && s.alert.holdoff.isNone }
         else if s.alert.holdoffWord = 0 then { s.alert with status := left, holdoff := none, asserted := left != 0 }
         else { s.alert with status := left, holdoff := some (10 * s.alert.holdoffWord.toNat), asserted := false }
       { (s.echo a).ended false with alert := after })

/-- GO_DORMANT is taken when no mark is QUEUED or RUNNING, no status bit is set, every fitted string is AT_LOAD and not
stranded, the line is ASLEEP or OFF and the board is not standing down: the part enters DORMANT, discards the latest
sample, sets the change counts to 0 and starts the wake timer unless the profile's is 0. Otherwise it stays ACTIVE,
reads back 0x81 and hands CONTROL_REFUSED (R86, R91, R175, R176, R190, R191, R193). Where the qualifier has yet to take
the latest sample, it takes it before the transaction, and the command is then as with nothing owed (log 11, the model's
choice). -/
def Obligations.DormancyIsEnteredAtRest : Prop :=
  ∀ (s : State) (a : BitVec 16), s.linkUp → low13 a = 0x0004 →
    (s.eng.qualifierOwed ≠ none → ∃ t, exec .supplyLineQualified s = .next t ∧ t.eng.qualifierOwed = none
      ∧ exec (.goDormant ⟨a, [0x02]⟩) s = exec (.goDormant ⟨a, [0x02]⟩) t)
    ∧ (s.eng.qualifierOwed = none →
    let rest := (∀ n : SlotId, (s.eng.slot n).mark ≠ .queued ∧ (s.eng.slot n).mark ≠ .running) ∧ s.alert.status = 0
      ∧ (∀ g : StringId, isFitted s.profile g = true →
          (s.eng.str g).sel = .atLoad ∧ (s.eng.str g).stranded = false)
      ∧ (s.eng.line.state = .asleep ∨ s.eng.line.state = .off) ∧ s.eng.board.standingDown = false
    (rest → exec (.goDormant ⟨a, [0x02]⟩) s = .next
      { (s.echo a).ended false with
        link := { ((s.echo a).ended false).link with control := 0x80 },
        alert := { s.alert with
          power := .dormant,
          wakeTimer := if fieldNat s.profile fldWake = 0 then none
            else some (s.eng.clock + BitVec.ofNat 32 (60 * fieldNat s.profile fldWake)) },
        eng := { s.eng with latest := none, advanceTaken := false,
                            supply := { s.eng.supply with mainsCount := 0, genCount := 0 } } })
    ∧ (¬ rest → exec (.goDormant ⟨a, [0x02]⟩) s = .next
      { (s.echo a).ended false with
        link := { ((s.echo a).ended false).link with control := 0x81 },
        alert := s.alert.capture .controlRefused }))

/-- HOLDOFF_EXPIRY: the holdoff timer stops, and ALERT# is asserted exactly if a status bit is set (R188); where no
timer runs nothing changes (log 8). WAKE_TIMER_EXPIRY and SUPPLY_WAKE: a DORMANT part becomes ACTIVE and the source is
written, and the wake timer is cancelled; no event is captured; a part that is ACTIVE stays as it is (R193). The
expiry is due when the clock has reached the timer's value; a supply line change wakes when the profile's SUPPLY_WAKE
flag, bit 2, is set. A time is reached when it lies at or behind the clock (log 7, log 19). -/
def Obligations.AlertUnitTimersAndWakes : Prop :=
  ∀ (s : State), s.held = none →
    (s.alert.holdoff ≠ none → exec .holdoffExpiry s = .next
      { s with alert := { s.alert with holdoff := none, asserted := s.alert.status != 0 } })
    ∧ (s.alert.holdoff = none → exec .holdoffExpiry s = .next s)
    ∧ (∀ d : Clock, s.alert.power = .dormant → s.alert.wakeTimer = some d → (s.eng.clock - d).toNat < 2 ^ 31 →
      exec .wakeTimerExpiry s = .next
        { s with alert := { s.alert with power := .active, wakeSource := .wakeTimer, wakeTimer := none } })
    ∧ (∀ d : Clock, s.alert.wakeTimer = some d → 2 ^ 31 ≤ (s.eng.clock - d).toNat →
      exec .wakeTimerExpiry s = .next s)
    ∧ (s.alert.wakeTimer = none → exec .wakeTimerExpiry s = .next s)
    ∧ (∀ l : SupplyLine,
      (s.alert.power = .dormant → (profileByte s.profile 0x2D).getLsbD 2 = true → exec (.supplyWake l) s = .next
        { s with alert := { s.alert with power := .active, wakeSource := .supplyLine, wakeTimer := none } })
      ∧ ((profileByte s.profile 0x2D).getLsbD 2 = false → exec (.supplyWake l) s = .next s)
      ∧ (s.alert.power = .active → exec (.supplyWake l) s = .next s))

/-- ALERT# is asserted exactly while a status bit is set, no holdoff runs and the part is not held in reset: every step
keeps this (R187). -/
def Obligations.AlertLineFollowsStatusAndHoldoff : Prop :=
  ∀ s t : State, s.alertOk → stepsTo s t → t.alertOk

/-! ## Resets -/

/-- POWER_ON_RESET: as it is taken every block takes its power-on value and the clock is 0; as the part leaves it, the
feedback is taken as it shows, the settling reading waits 500 ms, the reset cause is 1, and POWER_ON alone is set with
ALERT# asserted (R25, R41, R65, R83, R93, R95, R113 to R115, R165, R180, R181, R195). The model's own guard script and
counters of free values stand (log 13, log 14). -/
def Obligations.PowerOnResetGivesTheResetState : Prop :=
  ∀ (s : State) (low : Bool) (contacts : Vector Contact 8),
    ∃ u t, exec (.powerOnReset .taken) s = .next u ∧ u.held = some .powerOn ∧ u.alert.asserted = false
      ∧ exec (.powerOnReset (.left low contacts)) u = .next t
      ∧ t = { State.reset with
          pending := s.pending,
          link := { Link.powerOn with ignoring := low, freeReads := s.link.freeReads },
          eng := { Engine.powerOn with
            line := { Line.blank with guardScript := s.eng.line.guardScript, guardReads := s.eng.line.guardReads },
            strings := Vector.ofFn fun g => { StringRec.blank with observed := contacts.get g } } }

/-- PIN_RESET, as it is taken: the part is held and ALERT# released. The board is blank, every context free, every
claim released, the charger disabled, the path READY and closed, the supply LEAN, the line OFF with its fault count
kept; every selector is AT_LOAD and commanded there. The profile, the lock, the enables, the holdoff word, the cell
table, the clock and the string table's history are kept (R25, R41, R65, R83, R91, R113, R115, R165, R181, R195). -/
def Obligations.PinResetIsTaken : Prop :=
  ∀ s : State, s.held = none → ∃ t, exec (.pinReset .taken) s = .next t
    ∧ t.held = some .pin ∧ t.profile = s.profile
    ∧ t.link = { s.link with portMode := 0, control := 0, prevError := false, portErrorDetail := 0 }
    ∧ t.alert = { s.alert with status := 0, holdoff := none, asserted := false, power := .active, wakeSource := .none,
                               wakeTimer := none }
    ∧ t.eng.board = Board.blank ∧ (∀ c, t.eng.ctx c = none) ∧ t.eng.claims = Claims.blank
    ∧ t.eng.charger = Charger.blank ∧ t.eng.water = Water.blank ∧ t.eng.supply = SupplyUnit.blank
    ∧ t.eng.latest = none ∧ t.eng.clock = s.eng.clock ∧ t.eng.cells = s.eng.cells
    ∧ t.eng.line.state = .off ∧ t.eng.line.cause = .none ∧ t.eng.line.list = [] ∧ t.eng.line.sweep = none
    ∧ t.eng.line.nextTag = 0 ∧ t.eng.line.errors = 0 ∧ t.eng.line.strayCount = 0 ∧ t.eng.line.trial = false
    ∧ t.eng.line.faultCount = s.eng.line.faultCount
    ∧ ∀ g, t.eng.str g = { s.eng.str g with sel := .atLoad, commanded := .load, stranded := false, origin := none,
                                            timer := none }

/-- PIN_RESET, as the part leaves it: PIN_RESET is captured, the reset cause is 2, ALERT# follows; a string with
IN_ROUND set reads INTERRUPTED at this clock and loses IN_ROUND; feedback is taken as it shows; the settling reading
waits the transfer time; a confirmed profile moves the line to ASLEEP (R42, R44, R113, R114, R181, R195). -/
def Obligations.PinResetIsLeft : Prop :=
  ∀ (s : State) (low : Bool) (contacts : Vector Contact 8), s.held = some .pin → s.eng.line.state = .off →
    ∃ t, exec (.pinReset (.left low contacts)) s = .next t
      ∧ t.held = none ∧ t.profile = s.profile ∧ t.link = { s.link with ignoring := low }
      ∧ t.alert = { s.alert with status := s.alert.status ||| 0x0002, resetCause := 2,
                                 asserted := s.alert.holdoff.isNone }
      ∧ t.eng.settling = some (fieldNat s.profile fldTransfer)
      ∧ t.eng.line = { s.eng.line with state := if isConfirmed s.profile then .asleep else .off }
      ∧ (∀ g, t.eng.str g =
          if (s.eng.str g).inRound then
            { s.eng.str g with lastEqOutcome := some .interrupted, lastEqTime := s.eng.clock, inRound := false,
                               observed := contacts.get g }
          else { s.eng.str g with observed := contacts.get g })
      ∧ t.eng.board = s.eng.board ∧ t.eng.cells = s.eng.cells ∧ t.eng.clock = s.eng.clock

/-- CS_RISE_AFTER_RESET ends the deafness of the link (R181), and PART_CLOCK_ADVANCE counts one second without a sample
while the part is DORMANT or held in reset, wrapping after 4,294,967,295 (R93). Neither changes anything else, and
neither has an effect elsewhere (log 8, log 33). While the part is ACTIVE the second is a SAMPLE, which advances the
clock unless a clock event has made this advance already (log 7). -/
def Obligations.ClockAndDeafness : Prop :=
  ∀ s : State,
    (s.held = none → exec .csRiseAfterReset s = .next { s with link := { s.link with ignoring := false } })
    ∧ (s.held ≠ none → exec .csRiseAfterReset s = .next s)
    ∧ ((s.held ≠ none ∨ s.alert.power = .dormant) →
        exec .partClockAdvance s = .next { s with eng := { s.eng with clock := s.eng.clock + 1 } })
    ∧ (s.held = none → s.alert.power = .active → exec .partClockAdvance s = .next s)
    ∧ (s.awake = true → ∀ (r : Readings) (order : List Consumer), ∃ t, exec (.sample r order) s = .next t
        ∧ t.eng.clock = (if s.eng.advanceTaken then s.eng.clock else s.eng.clock + 1) ∧ t.eng.advanceTaken = false)

/-- The reset state shows the values the manual states for a power-on reset: the port words, sixteen FREE slots, no
busy context, unclaimed resources, censuses UNKNOWN, selectors AT_LOAD, the charger disabled, the path READY, the
supply LEAN and all 64 bytes of the profile at their power-on values (section 11.2, section 11.3; R25, R41, R65, R91,
R113, R115, R165, R179). It keeps the laws of the part, and nothing waits to be done in it (calm, the model's own, log
15). -/
def Obligations.ResetValues : Prop :=
  ((List.range 28).map State.reset.readByte
    = [0x4D, 0x03, 0x01, 0, 0, 0, 50, 0, 0, 0, 0, 0, 0, 0, 0, 0, 0, 0, 0x01, 0x00, 0xFF, 0xFF, 0, 0xFF, 0, 0, 0, 0])
  ∧ (∀ n : SlotId, (State.reset.eng.slot n).mark = .free) ∧ (∀ c : CtxId, State.reset.eng.ctx c = none)
  ∧ State.reset.eng.claims = Claims.blank
  ∧ (∀ g : StringId, (State.reset.eng.str g).census = .unknown ∧ (State.reset.eng.str g).sel = .atLoad
      ∧ (State.reset.eng.str g).commanded = .load ∧ (State.reset.eng.str g).flags = 0)
  ∧ State.reset.eng.charger.enable = false ∧ State.reset.eng.water.state = .ready
  ∧ State.reset.eng.supply.state = .lean ∧ State.reset.eng.clock = 0 ∧ State.reset.statusByte = 0x90
  ∧ ((List.range 64).map (profileByte State.reset.profile)
    = [0x00, 2, 24, 24, 24, 24, 24, 24, 24, 24, 0x8C, 0x0A, 0xC2, 0x01, 0xF4, 0x01, 3, 0xF4, 0x01, 0xF4, 0x01, 60, 0,
       60, 30, 0, 10, 60, 0, 0xF4, 0x01, 60, 0, 20, 120, 0, 5, 10, 20, 8, 10, 120, 0, 0, 0, 0x05]
      ++ List.replicate 17 0x00 ++ [0x00])
  ∧ isConfirmed State.reset.profile = false
  ∧ State.reset.alertOk ∧ State.reset.eng.oneEqualise ∧ State.reset.eng.pumpOk ∧ State.reset.eng.chargerOk
  ∧ State.reset.link.wordsOk ∧ State.reset.calm

/-! ## The order board (chapter 1) -/

/-- POST on a FREE slot is refused with the reason of the first check that fails, in the manual's order; the slot
becomes REFUSED with its result section written whole, and nothing else changes (R8, R9). The fields of a body lie in
their ranges as R4 to R7 say, at the offsets of section 11.4; a flags byte with a bit that is named for no flag is out of range. -/
def Obligations.PostIsRefusedForTheFirstFailingCheck : Prop :=
  (∀ (s : State) (a : BitVec 16) (n : SlotId) (x : Reason), s.linkUp → s.calm → low13 a = 0x0100 + 64 * n.val →
    (s.eng.slot n).mark = .free → s.eng.refusal s.profile (s.eng.slot n) = some x →
    exec (.post ⟨a, [0x01]⟩) s = .next
      (let y : Slot := { s.eng.slot n with
         mark := .refused, result := { Result.blank with first := .reason x, accepted := s.eng.clock } }
       { (s.echo a).ended false with eng := s.eng.putSlot n y }))
  ∧ ∀ (e : Engine) (p : Profile) (y : Slot),
      let moves := orderCode y = 2 ∨ orderCode y = 3 ∨ orderCode y = 4
      let every (f : StringId → Prop) : Prop := ∀ g : StringId, (orderMask y).getLsbD g.val = true → f g
      let checks : List (Prop × Reason) :=
        [(orderCode y = 0 ∨ 5 < orderCode y, .unknownKind), (e.board.standingDown = true, .standingDown),
         (moves ∧ isConfirmed p = false, .profileUnconfirmed),
         (orderMask y = 0 ∧ (orderCode y ≠ 5 ∨ scopeCells y = true ∨ scopeStrings y = true), .emptyMask),
         (paramsOk y = false, .paramRange), (¬ every fun g => isFitted p g = true, .stringNotFitted),
         (moves ∧ ¬ every fun g => (e.str g).sel ≠ .faulted, .stringFaulted),
         (moves ∧ ¬ every fun g => (e.str g).census = .established, .noCensus),
         (orderCode y = 4 ∧ ¬ every fun g => (e.str g).stranded = true, .notStranded)]
      let b (k : Nat) : Nat := (bodyByte y k).toNat
      let w (k : Nat) : Nat := b k + 256 * b (k + 1)
      let lies (low x high : Nat) : Prop := low ≤ x ∧ x ≤ high
      (∀ (before after : List (Prop × Reason)) (c : Prop) (x : Reason), checks = before ++ (c, x) :: after → c →
          (∀ z ∈ before, ¬ z.1) → e.refusal p y = some x)
        ∧ ((∀ z ∈ checks, ¬ z.1) → e.refusal p y = none)
        ∧ (paramsOk y = true ↔ lies 0 (b 2) 1 ∧ lies 0 (w 4) 1440
          ∧ (b 1 = 1 → lies 0 (b 6) 1 ∧ lies 1 (b 7) 8)
          ∧ (b 1 = 2 → lies 2300 (w 6) 2550 ∧ lies 10 (w 8) 1000 ∧ lies 0 (b 10) 240 ∧ lies 30 (w 11) 720 ∧ b 10 ≤ w 11
            ∧ lies 1 (b 13) 50 ∧ lies 1 (b 14) 20 ∧ lies 3 (b 15) 12 ∧ lies 0 (b 16) 15 ∧ lies 0 (w 17) 2000
            ∧ ((bodyByte y 16).getLsbD 1 = true → lies 100 (w 19) 20000))
          ∧ (b 1 = 3 → lies 100 (w 6) 20000 ∧ lies 0 (b 8) 3)
          ∧ (b 1 = 5 → lies 1 (b 6) 15))

/-- POST of an order that passes every check and finds no free context: it is QUEUED in its class with its result
section blank but for the accepted time, the next acceptance number, no pass-over count and its start-by deadline; an
URGENT order goes behind the last URGENT entry, a ROUTINE one to the end (R10, R12, R15, R16). -/
def Obligations.PostQueuesInItsClass : Prop :=
  ∀ (s : State) (a : BitVec 16) (n : SlotId), s.linkUp → s.calm → low13 a = 0x0100 + 64 * n.val →
    (s.eng.slot n).mark = .free → s.eng.refusal s.profile (s.eng.slot n) = none → orderCode (s.eng.slot n) ≠ 5 →
    s.eng.freeCtx = none → s.eng.board.queue.length < 16 → n ∉ s.eng.board.queue →
    exec (.post ⟨a, [0x01]⟩) s = .next
      (let x : Slot := { s.eng.slot n with
         mark := .queued, result := { Result.blank with accepted := s.eng.clock }, seq := some s.eng.board.nextSeq,
         passOver := 0, withdrawNote := false,
         deadline := if bodyHalf (s.eng.slot n) 4 = 0 then none
           else some (s.eng.clock + BitVec.ofNat 32 (60 * bodyHalf (s.eng.slot n) 4)) }
       let urgent : SlotId → Bool := fun m => bodyByte (s.eng.slot m) 2 == 1
       let q := s.eng.board.queue
       let e := s.eng.putSlot n x
       let b : Board := { e.board with
         nextSeq := s.eng.board.nextSeq + 1,
         queue := if urgent n then q.takeWhile urgent ++ n :: q.dropWhile urgent else q ++ [n] }
       { (s.echo a).ended false with eng := { e with board := b } })

/-- POST of a SURVEY on a part with nothing under way and its line WAKING: the scan starts it in C0 and its first request
is listed; the slot is RUNNING (R14 to R16, R29, R47). Without RECOUNT it takes no claim and enters SWEEPING (R79). With
RECOUNT, its strings unclaimed, it claims each of them, their censuses become PROVISIONAL with an empty set, and it
enters CENSUS (R80). On a CENSUS completion each string of the sweep takes the positions that replied as its census set:
PROVISIONAL on the first sweep; on a later one ESTABLISHED, with SHORT_CENSUS where they are fewer than cells-fitted, if
they are the set it had, which is not empty; else UNSTABLE at the sweep limit, 2 to 4. A string so decided closes; the
rest are swept again, here on a WAKING line (R78, R81). -/
def Obligations.SurveyStartsAtOnce : Prop :=
  (∀ (s : State) (a : BitVec 16) (n : SlotId), s.linkUp → s.calm → low13 a = 0x0100 + 64 * n.val →
    (s.eng.slot n).mark = .free → s.eng.refusal s.profile (s.eng.slot n) = none → orderCode (s.eng.slot n) = 1 →
    s.unburdened → s.eng.board.favoured = none → s.eng.line.state = .waking →
    let m := orderMask (s.eng.slot n)
    let starts (t : State) (ph : Phase) (u : Purpose) : Prop :=
      (t.eng.slot n).mark = .running
      ∧ (t.eng.slot n).result.started = s.eng.clock ∧ t.eng.board.queue = []
      ∧ (∃ r, t.eng.ctx 0 = some r ∧ r.slot = n ∧ r.kind = .survey ∧ r.phase = ph ∧ r.phaseStart = s.eng.clock
          ∧ r.cur = none ∧ r.remaining = 0 ∧ r.firstCause = none ∧ r.sweepsIssued = 0)
      ∧ t.eng.line.list = s.eng.line.list ++ [{ ctx := 0, slot := n, mask := m, purpose := u }]
      ∧ (∀ k, k ≠ n → t.eng.slot k = s.eng.slot k) ∧ t.eng.cells = s.eng.cells ∧ t.alert = s.alert
    (bodyByte (s.eng.slot n) 6 = 0 → ∃ t, exec (.post ⟨a, [0x01]⟩) s = .next t ∧ starts t .sweeping .survey
      ∧ t.eng.claims = s.eng.claims ∧ t.eng.strings = s.eng.strings)
    ∧ (bodyByte (s.eng.slot n) 6 = 1 → (∀ g : StringId, m.getLsbD g.val = true → s.eng.owner g = none) →
      ∃ t, exec (.post ⟨a, [0x01]⟩) s = .next t ∧ starts t .census .census
        ∧ t.eng.claims.charger = s.eng.claims.charger ∧ t.eng.claims.water = s.eng.claims.water
        ∧ ∀ g : StringId,
          (m.getLsbD g.val = true → t.eng.owner g = some 0
            ∧ t.eng.str g = { s.eng.str g with census := .provisional, censusSet := 0 })
          ∧ (m.getLsbD g.val = false → t.eng.owner g = s.eng.owner g ∧ t.eng.str g = s.eng.str g)))
  ∧ ∀ (e : Engine) (p : Profile) (q : Request) (r : Round) (replied missing : AddrSet),
    e.ctx q.ctx = some r → r.slot = q.slot → r.phase = .census → r.inWatering = false → q.purpose = .census →
    let t := e.completion p q true replied missing
    let limit := if (bodyByte (e.slot q.slot) 7).toNat < 2 then 2
      else if 4 < (bodyByte (e.slot q.slot) 7).toNat then 4 else (bodyByte (e.slot q.slot) 7).toNat
    let sweeps := min 255 (r.sweepsIssued + 1)
    let closes (g : StringId) : Option (Census × Outcome) :=
      if q.mask.getLsbD g.val = false ∨ sweeps = 1 then none
      else if replied.get g = (e.str g).censusSet ∧ replied.get g ≠ 0 then some (.established, .censusEstablished)
      else if limit ≤ sweeps then some (.unstable, .censusUnstable) else none
    ∃ r', t.ctx q.ctx = some r' ∧ r'.sweepsIssued = sweeps
      ∧ (∀ g : StringId, r'.primary.get g = match closes g with
          | some x => x.2
          | none => r.primary.get g)
      ∧ (∀ g : StringId, t.str g =
          if q.mask.getLsbD g.val = false then e.str g
          else
            let fewer := posCount (replied.get g) < cellsFitted p g ∧ (closes g).map Prod.fst = some .established
            { e.str g with
              censusSet := replied.get g,
              census := match closes g with
                | some x => x.1
                | none => .provisional,
              flags := if fewer then (e.str g).flags ||| 0x08 else (e.str g).flags })
      ∧ ((∃ g, r'.primary.get g = .inProgress) → e.line.state = .waking → t.line.list = e.line.list
          ++ [{ q with slot := r.slot, mask := maskOf fun g => r'.primary.get g == .inProgress }])
      ∧ ((∀ g, r'.primary.get g ≠ .inProgress) → t.line = e.line)

/-- POST of a CLEAR that passes every check is carried out at once, each scope by the block that owns the state; the
slot is SETTLED DONE with all three times the present clock, and SETTLED is handed (R11, R63, R75, R109, R145). No
order waits. -/
def Obligations.ClearIsCarriedOut : Prop :=
  ∀ (s : State) (a : BitVec 16) (n : SlotId), s.linkUp → s.calm → low13 a = 0x0100 + 64 * n.val →
    (s.eng.slot n).mark = .free → s.eng.refusal s.profile (s.eng.slot n) = none → orderCode (s.eng.slot n) = 5 →
    s.eng.board.queue = [] →
    let y := s.eng.slot n
    let scope : Nat → Bool := fun k => (bodyByte y 6).getLsbD k
    let named : StringId → Prop := fun g => (orderMask y).getLsbD g.val = true
    ∃ t, exec (.post ⟨a, [0x01]⟩) s = .next t
      ∧ t.eng.slot n = { y with
          mark := .settled,
          result := { Result.blank with
            outcome := .done, accepted := s.eng.clock, started := s.eng.clock, settled := s.eng.clock } }
      ∧ t.alert = s.alert.capture .settled ∧ t.link = ((s.echo a).ended false).link ∧ t.profile = s.profile
      ∧ (∀ (g : StringId) (q : Position), t.eng.cell g q =
          if scope 0 = true ∧ named g ∧ q.val < cellsFitted s.profile g
              ∧ (clearPositions y).getLsbD q.val = true then { s.eng.cell g q with flags := 0, misses := 0 }
          else s.eng.cell g q)
      ∧ (∀ g : StringId, t.eng.str g =
          if scope 1 = true ∧ named g then
            if (s.eng.str g).sel = .faulted then
              if (s.eng.str g).observed = .load then { s.eng.str g with flags := 0, sel := .atLoad }
              else { s.eng.str g with flags := (s.eng.str g).flags &&& 0x01 }
            else { s.eng.str g with flags := 0 }
          else s.eng.str g)
      ∧ t.eng.water = (if scope 2 = true ∧ s.eng.water.state = .faulted then
          { s.eng.water with
            idle := 0,
            state := if (latestLines s.eng.latest).resEmpty = true then .empty
              else if s.eng.claims.water = none then .ready else .busy }
          else s.eng.water)
      ∧ t.eng.line = (if scope 3 = true then { s.eng.line with faultCount := 0, strayCount := 0 } else s.eng.line)
      ∧ t.eng.ctxs = s.eng.ctxs ∧ t.eng.claims = s.eng.claims

/-- RELEASE on a SETTLED or REFUSED slot makes it FREE and clears its acceptance number; body, result section and
everything else stay: no event is captured and no scan runs. A slot is in the settled set, which a link READ shows at
0x0018 and no write changes, exactly while it is SETTLED or REFUSED, and the SETTLED and FREE_SLOT indications of the
status byte follow (R22). -/
def Obligations.ReleaseFreesTheSlot : Prop :=
  (∀ (s : State) (a : BitVec 16) (n : SlotId), s.linkUp → s.calm → low13 a = 0x0100 + 64 * n.val →
    ((s.eng.slot n).mark = .settled ∨ (s.eng.slot n).mark = .refused) →
    exec (.release ⟨a, [0x00]⟩) s = .next
      (let x : Slot := { s.eng.slot n with mark := .free, seq := none }
       { (s.echo a).ended false with eng := s.eng.putSlot n x }))
  ∧ (∀ (e : Engine) (n : SlotId),
      e.settledSet.getLsbD n.val = true ↔ (e.slot n).mark = .settled ∨ (e.slot n).mark = .refused)
  ∧ ∀ s : State,
      (s.statusByte.getLsbD 6 = true ↔ ∃ n, (s.eng.slot n).mark = .settled ∨ (s.eng.slot n).mark = .refused)
      ∧ (s.statusByte.getLsbD 4 = true ↔ ∃ n, (s.eng.slot n).mark = .free)
      ∧ s.readByte 0x0018 = s.eng.settledSet.extractLsb' 0 8 ∧ s.readByte 0x0019 = s.eng.settledSet.extractLsb' 8 8
      ∧ (s.linkUp → ∀ (a : BitVec 16) (v : Byte), low13 a = 0x0018 ∨ low13 a = 0x0019 →
          exec (.registerWrite ⟨a, [v]⟩) s = .next ((s.echo a).erred 2))

/-- WITHDRAW: the one QUEUED order settles WITHDRAWN with SETTLED handed; a RUNNING order whose note is set changes
nothing; one whose note is clear and whose string is on its way back in MATCH or RETURNING has the note set and the
cause taken; a SETTLED slot takes the late-withdraw indicator alone (R13, R23, R35, R36). -/
def Obligations.WithdrawByMark : Prop :=
  ∀ (s : State) (a : BitVec 16) (n : SlotId), s.linkUp → s.calm → low13 a = 0x0100 + 64 * n.val →
    ((s.eng.slot n).mark = .queued → s.eng.board.queue = [n] →
      ∃ t, exec (.withdraw ⟨a, [0x06]⟩) s = .next t ∧ t.alert = s.alert.capture .settled
        ∧ (t.eng.slot n).mark = .settled ∧ (t.eng.slot n).result.outcome = .withdrawn
        ∧ (t.eng.slot n).result.first = .cause .withdrawn ∧ (t.eng.slot n).result.settled = s.eng.clock
        ∧ (t.eng.slot n).result.started = (s.eng.slot n).result.started ∧ (t.eng.slot n).deadline = none
        ∧ t.eng.board.queue = [] ∧ (∀ m, m ≠ n → t.eng.slot m = s.eng.slot m) ∧ t.eng.ctxs = s.eng.ctxs)
    ∧ ((s.eng.slot n).mark = .running → (s.eng.slot n).withdrawNote = true →
      exec (.withdraw ⟨a, [0x06]⟩) s = .next ((s.echo a).ended false))
    ∧ (∀ (c : CtxId) (r : Round), (s.eng.slot n).mark = .running → (s.eng.slot n).withdrawNote = false →
      s.eng.ctxOf n = some c → s.eng.ctx c = some r → (r.phase = .matching ∨ r.phase = .returning) →
      exec (.withdraw ⟨a, [0x06]⟩) s = .next
        (let x : Slot := { s.eng.slot n with withdrawNote := true }
         { (s.echo a).ended false with eng := (s.eng.putSlot n x).putRound c (r.takeCause .withdrawn) }))
    ∧ ((s.eng.slot n).mark = .settled →
      exec (.withdraw ⟨a, [0x06]⟩) s = .next
        (let x : Slot := { s.eng.slot n with result := { (s.eng.slot n).result with late := true } }
         { (s.echo a).ended false with eng := s.eng.putSlot n x }))

/-- The first site cause a round takes is recorded and its remaining strings read NOT_REACHED; a later one is counted,
saturating at 255, and changes nothing else (R35, R36). A rise of CHG_FAULT on a sample is the cause CHARGER_FAULT to
the context that drives a string (R87, R116), here taken before the context takes the sample (log 10, the model's
choice), with no other context busy and no order queued. As first cause it brings the string to rest by its phase
(R133): in ISOLATING and in an EQUALISE's CONNECTING SITE_ABORT is pending and the transfer goes on; PRECHARGE returns
from OPEN; RAMP and HOLD end into MATCH. In MATCH the set level then begins a stranding return (R127, R129, R136). In
a RETURN's CONNECTING, or as a later cause, it is recorded and the transfer goes on. A CHECK closes SITE_ABORT. A
RETURN in SWEEPING at the rise, and one in PRECHARGE at a set level, whatever the bus (log 20, the model's choice),
strands its string again and closes STRANDED (R138, R139); the order then settles, with no string remaining or the
rise as its cause. -/
def Obligations.FirstCauseIsKept : Prop :=
  (∀ (r : Round) (x : Cause),
    (r.firstCause ≠ none → r.takeCause x = { r with laterCauses := min 255 (r.laterCauses + 1) })
    ∧ (r.firstCause = none → (r.takeCause x).firstCause = some x ∧ (r.takeCause x).remaining = 0
        ∧ (r.takeCause x).laterCauses = r.laterCauses ∧ (r.takeCause x).pendingOutcome = r.pendingOutcome
        ∧ (r.takeCause x).phase = r.phase ∧ (r.takeCause x).cur = r.cur
        ∧ ∀ g : StringId,
          let list := if r.inWatering = true ∧ r.kind = .equalise then r.watering else r.primary
          let list' := if r.inWatering = true ∧ r.kind = .equalise then (r.takeCause x).watering
            else (r.takeCause x).primary
          list'.get g = if r.remaining.getLsbD g.val = true then .notReached else list.get g))
  ∧ ∀ (s : State) (r : Readings) (c : CtxId) (d : Round) (g : StringId), s.attending → s.eng.qualifierOwed = none →
    s.eng.board.queue = [] → s.drives c d g → s.onlyBusy c → r.chgFault = true →
    r.resLow = (latestLines s.eng.latest).resLow → r.resEmpty = false → s.eng.water.state ≠ .empty →
    let now := if s.eng.advanceTaken then s.eng.clock else s.eng.clock + 1
    let kept : Engine := { s.eng with
      clock := now, advanceTaken := false, latest := some (sampleOf now r),
      qualifierOwed := some (fieldNat s.profile fldQualify) }
    let leaves (e : Engine) : Prop := exec (.sample r []) s = .next { s with eng := e }
    let off : Charger := { enable := false, setpoint := 0, limit := 0 }
    let moves (sel : SelState) (goal : Drive) (start : Contact) : StringRec := { s.eng.str g with
      sel := sel, commanded := goal, origin := some start, timer := some (fieldNat s.profile fldTransfer) }
    let rises := (latestLines s.eng.latest).chgFault = false
    let caused := d.takeCause .chargerFault
    let back : Round := { caused with phase := .returning, phaseStart := now }
    (rises → d.phase = .isolating ∨ d.phase = .connecting →
      (d.firstCause = none → d.phase = .isolating ∨ d.kind = .equalise →
        leaves (kept.putRound c { caused with pendingOutcome := some .siteAbort }))
      ∧ (d.firstCause ≠ none ∨ (d.phase = .connecting ∧ d.kind = .giveBack) → leaves (kept.putRound c caused)))
    ∧ (rises → d.firstCause = none → d.phase = .precharge → d.kind = .equalise → (s.eng.str g).sel = .atOpen →
      leaves { (kept.putStr g (moves .goingLoad .load .opened)).putRound c
          { back with pendingOutcome := some .siteAbort } with charger := off })
    ∧ (rises → d.firstCause = none → d.phase = .ramp ∨ d.phase = .hold → (s.eng.str g).sel = .atEq →
      leaves { ((kept.withdrawSweep c).putStr g (moves .goingOpen .opened .equalise)).putRound c
          { back with perCell := 0, holdDue := false, stranding := true, pendingOutcome := some .siteAbort } with
        charger := off })
    ∧ (rises → d.phase = .matching → (s.eng.str g).sel = .atEq →
      leaves { (kept.putStr g (moves .goingOpen .opened .equalise)).putRound c { back with stranding := true } with
        charger := off })
    ∧ (let strands := orderCode (s.eng.slot d.slot) = 4 ∧ d.kind = .giveBack ∧ (s.eng.str g).sel = .atOpen
         ∧ ((d.phase = .sweeping ∧ rises) ∨ (d.phase = .precharge ∧ (rises ∨ d.remaining = 0)))
       let aborts := d.kind = .equalise ∧ d.phase = .check ∧ d.leftLoad = false ∧ rises
       let closes (o : Outcome) : Prop := ∃ t, exec (.sample r []) s = .next t
         ∧ t.eng.charger = off ∧ t.eng.ctx c = none ∧ t.eng.claims.charger = none ∧ t.eng.owner g = none
         ∧ t.eng.hasRequest c = false ∧ (t.eng.slot d.slot).mark = .settled
         ∧ (t.eng.slot d.slot).result.settled = now ∧ (t.eng.slot d.slot).result.primary.get g = o
         ∧ (∀ k, k ≠ g → t.eng.str k = s.eng.str k ∧ (t.eng.slot d.slot).result.primary.get k =
             if d.remaining.getLsbD k.val = true then .notReached else d.primary.get k)
         ∧ (rises → (t.eng.slot d.slot).result.outcome = .aborted
           ∧ (t.eng.slot d.slot).result.first = .cause .chargerFault)
         ∧ t.eng.str g = (if o = .stranded then
             { s.eng.str g with
               stranded := true, flags := (s.eng.str g).flags ||| 0x02, inRound := false,
               lastEqTime := if d.leftLoad then now else (s.eng.str g).lastEqTime,
               lastEqOutcome := if d.leftLoad then some .stranded else (s.eng.str g).lastEqOutcome }
             else s.eng.str g)
         ∧ (s.eng.board.standingDown = false →
             t.alert = (if o = .stranded then s.alert.capture .stranded else s.alert).capture .settled)
       d.firstCause = none → d.inWatering = false →
         (strands → closes .stranded) ∧ (aborts → closes .siteAbort))

/-- A mark request that the slot's mark does not call for is discarded: a POST unless the slot is FREE, a RELEASE unless
it is SETTLED or REFUSED, a WITHDRAW on a FREE or REFUSED slot, and any other value. The slot stays, the detail byte reads
MARK and PORT_ERROR is handed (R2, R174). The same is so whichever WRITE row brings the byte (log 3, the model's choice).
-/
def Obligations.MarkErrors : Prop :=
  ∀ (s : State) (a : BitVec 16) (n : SlotId), s.linkUp → low13 a = 0x0100 + 64 * n.val →
    let m := (s.eng.slot n).mark
    (m ≠ .free → exec (.post ⟨a, [0x01]⟩) s = .next ((s.echo a).erred 3))
    ∧ (m ≠ .settled → m ≠ .refused → exec (.release ⟨a, [0x00]⟩) s = .next ((s.echo a).erred 3))
    ∧ (m = .free ∨ m = .refused → exec (.withdraw ⟨a, [0x06]⟩) s = .next ((s.echo a).erred 3))
    ∧ ∀ (v : Byte) (i : Instr), Sends i ⟨a, [v]⟩ →
      (v = 0x01 ∧ m ≠ .free) ∨ (v = 0x00 ∧ m ≠ .settled ∧ m ≠ .refused) ∨ (v = 0x06 ∧ (m = .free ∨ m = .refused))
        ∨ (v ≠ 0x00 ∧ v ≠ 0x01 ∧ v ≠ 0x06) →
      exec i s = .next ((s.echo a).erred 3)

/-- STAND_DOWN: while the board is standing down it reads back 0x82 and nothing else changes. Otherwise it reads back
0x80; with no order queued and no context busy, STAND_DOWN_DONE is handed at once; with no order queued and every busy
context on its way back in MATCH or RETURNING, each takes the cause and the board is standing down (R24, R175). -/
def Obligations.StandDownByBoardState : Prop :=
  ∀ (s : State) (a : BitVec 16), s.linkUp → s.calm → low13 a = 0x0004 →
    (s.eng.board.standingDown = true → exec (.standDown ⟨a, [0x01]⟩) s = .next
      { (s.echo a).ended false with link := { ((s.echo a).ended false).link with control := 0x82 } })
    ∧ (s.eng.board.standingDown = false → s.unburdened → exec (.standDown ⟨a, [0x01]⟩) s = .next
      { (s.echo a).ended false with
        link := { ((s.echo a).ended false).link with control := 0x80 },
        alert := s.alert.capture .standDownDone })
    ∧ (s.eng.board.standingDown = false → s.eng.board.queue = [] → (∃ c, s.eng.ctx c ≠ none) →
      (∀ c r, s.eng.ctx c = some r → r.phase = .matching ∨ r.phase = .returning) →
      ∃ t, exec (.standDown ⟨a, [0x01]⟩) s = .next t ∧ t.link.control = 0x80 ∧ t.alert = s.alert
        ∧ t.eng.board = { s.eng.board with standingDown := true }
        ∧ ∀ c, t.eng.ctx c = (s.eng.ctx c).map fun r => r.takeCause .standDown)

/-- START_BY_EXPIRY: the one QUEUED order whose deadline the clock has reached settles EXPIRED as a queued settlement;
where the slot is not QUEUED or the deadline lies more than one advance ahead, nothing changes (R13, R19, R94; the
expiry may bring the coming advance with it, log 7). A time is reached when it lies at or behind the clock (log 7, log
19). That the command changes nothing where the slot is not QUEUED or the time has not come is the model's inference
(log 8). -/
def Obligations.DeadlineSettlesTheOrder : Prop :=
  ∀ (s : State) (n : SlotId), s.attending →
    (∀ d : Clock, (s.eng.slot n).mark = .queued → (s.eng.slot n).deadline = some d → s.eng.board.queue = [n] →
      (s.eng.clock - d).toNat < 2 ^ 31 →
      exec (.startByExpiry n) s = .next
        (let y := s.eng.slot n
         let notReached : Vector Outcome 8 := Vector.ofFn fun g =>
           if (orderMask y).getLsbD g.val then .notReached else .notInMask
         let x : Slot := { y with
           mark := .settled, passOver := 0, deadline := none,
           result := { y.result with
             outcome := .expired, first := .cause .expired, later := 0, late := false, settled := s.eng.clock,
             primary := notReached, watering := if thenWater y then notReached else Vector.replicate 8 .notInMask } }
         let e := s.eng.putSlot n x
         let b : Board := { e.board with
           queue := [], favoured := if e.board.favoured = some n then none else e.board.favoured }
         { s with alert := s.alert.capture .settled, eng := { e with board := b } }))
    ∧ ((s.eng.slot n).mark ≠ .queued → exec (.startByExpiry n) s = .next s)
    ∧ (∀ d : Clock, (s.eng.slot n).deadline = some d → 2 ^ 31 ≤ (s.eng.clock - d).toNat →
        2 ^ 31 ≤ (s.eng.clock + 1 - d).toNat → exec (.startByExpiry n) s = .next s)

/-- A dispatch takes the claims of its kind at once, in C0 of a part with nothing under way and nothing claimed: EQUALISE
the charger and its strings, and with THEN_WATER the water path; WATER the path and its strings; RETURN the charger and
its strings. A path that is claimed is BUSY with its idle count 0. The slot is RUNNING; the round begins with its lowest
string: a CHECK, ESTIMATE or LEVEL sweep is requested, here on a WAKING line, or PRIME is entered with the valve open
(R15, R16, R29, R30, R47, R117, R138, R143, R146, R152 to R154). A start raises the pass-over count, up to 8, of each
entry that stood before the one started and of no other; the favoured order stays unless it is the one started; with none
favoured the entry nearest the front whose count is 8 becomes favoured, one that had it before the start first (R17). An
entry behind the favoured order that shares a resource with it is passed over in the walk; one that shares none starts if
its needs are met (R14, R18). -/
def Obligations.DispatchTakesItsClaims : Prop :=
  (∀ (s : State) (a : BitVec 16) (n : SlotId) (g : StringId), s.linkUp → s.calm → low13 a = 0x0100 + 64 * n.val →
    (s.eng.slot n).mark = .free → s.eng.refusal s.profile (s.eng.slot n) = none → s.unburdened →
    s.eng.board.favoured = none → s.eng.claims = Claims.blank → s.eng.line.state = .waking →
    let y := s.eng.slot n
    let m := orderMask y
    m.getLsbD g.val = true → (∀ k : StringId, k < g → m.getLsbD k.val = false) →
    let mine : Vector (Option CtxId) 8 := Vector.ofFn fun k => if m.getLsbD k.val then some 0 else none
    let busy : Water := { s.eng.water with state := .busy, idle := 0 }
    let starts (charger water : Bool) (k : Kind) (ph : Phase) (sweep : Option Purpose) : Prop :=
      ∃ t r, exec (.post ⟨a, [0x01]⟩) s = .next t ∧ (t.eng.slot n).mark = .running ∧ t.eng.board.queue = []
        ∧ (t.eng.slot n).result.started = s.eng.clock
        ∧ t.eng.claims = { charger := if charger then some 0 else none, water := if water then some 0 else none,
                           strings := mine }
        ∧ t.eng.ctx 0 = some r ∧ r.slot = n ∧ r.kind = k ∧ r.phase = ph ∧ r.phaseStart = s.eng.clock ∧ r.cur = some g
        ∧ r.remaining = m &&& ~~~ (1#8 <<< g.val) ∧ r.firstCause = none ∧ r.pendingOutcome = none
        ∧ t.eng.line.list = s.eng.line.list ++ (match sweep with
            | some u => [{ ctx := 0, slot := n, mask := 1#8 <<< g.val, purpose := u }]
            | none => [])
        ∧ t.eng.water = (if ph = .prime then { busy with valve := some g, pump := true }
            else if water then busy else s.eng.water)
        ∧ t.eng.strings = s.eng.strings ∧ t.eng.charger = s.eng.charger ∧ t.alert = s.alert
    let unstranded := ∀ k : StringId, m.getLsbD k.val = true → (s.eng.str k).stranded = false
    (orderCode y = 2 → unstranded → (latestLines s.eng.latest).chgFault = false →
      s.eng.supply.state = .rich ∨ (s.eng.supply.state = .generator ∧ allowGenerator y = true) →
      (thenWater y = true → s.eng.water.state = .ready) →
      starts true (thenWater y) .equalise .check (some .check))
    ∧ (orderCode y = 4 → (latestLines s.eng.latest).chgFault = false →
      starts true false .giveBack .sweeping (some .estimate))
    ∧ (orderCode y = 3 → unstranded → s.eng.water.state = .ready →
      s.eng.supply.state = .rich ∨ (s.eng.supply.state = .generator ∧ waterOnGenerator s.profile = true)
        ∨ (s.eng.supply.state = .lean ∧ waterOnLean s.profile = true) →
      (s.eng.str g).sel = .atLoad → (s.eng.str g).restUntil = 0 →
      (onlyIfLow y = true → starts false true .water .levelCheck (some .level))
      ∧ (onlyIfLow y = false → s.eng.water.valve = none → s.eng.water.coast = none →
        starts false true .water .prime none)))
  ∧ (∀ (e : Engine) (c : CtxId) (n : SlotId) (k : Kind),
    let q := e.board.queue
    let left := q.filter fun m => m != n
    let count (m : SlotId) : Nat :=
      if m ∈ q.takeWhile (fun j => j != n) then min 8 ((e.slot m).passOver + 1) else (e.slot m).passOver
    let t := e.dispatch c n k
    q.Nodup → t.board.queue = left ∧ (∀ m, m ≠ n → t.slot m = { e.slot m with passOver := count m })
      ∧ t.board.favoured = match (if e.board.favoured = some n then none else e.board.favoured) with
        | some f => some f
        | none => (left.find? fun m => (e.slot m).passOver == 8).or (left.find? fun m => count m == 8))
  ∧ ∀ (e : Engine) (p : Profile) (n f : SlotId) (rest : List SlotId), e.board.favoured = some f → f ≠ n →
    f ∈ e.board.queue.takeWhile (fun m => m != n) →
    let charges (y : Slot) : Prop := orderCode y = 2 ∨ orderCode y = 4
    let waters (y : Slot) : Prop := orderCode y = 3 ∨ (orderCode y = 2 ∧ (bodyByte y 16).getLsbD 1 = true)
    let moves (y : Slot) (g : StringId) : Prop := (orderMask y).getLsbD g.val = true
      ∧ (orderCode y = 2 ∨ orderCode y = 3 ∨ orderCode y = 4 ∨ (orderCode y = 1 ∧ (bodyByte y 6).getLsbD 0 = true))
    let shares := (charges (e.slot f) ∧ charges (e.slot n)) ∨ (waters (e.slot f) ∧ waters (e.slot n))
      ∨ ∃ g, moves (e.slot f) g ∧ moves (e.slot n) g
    within 1 4 (orderCode (e.slot f)) = true → within 1 4 (orderCode (e.slot n)) = true →
    (shares → e.walkOne p n rest = e.hand [.walk rest])
    ∧ (¬ shares → (e.slot n).mark = .queued → e.needsMet p n = true → ∀ (c : CtxId) (k : Kind), e.freeCtx = some c →
        orderKind (e.slot n) = some k → ∃ ws, e.walkOne p n rest = (e.dispatch c n k).hand ws)

/-! ## Samples and the supply (chapter 5) -/

/-- SAMPLE: the latest sample holds the readings, each bus reading clamped to its range and each line at its level,
with the clock after the advance as its time (R85). Its consumers take it, here in the model's default order, the
qualifier after the rest (log 10, log 11, the model's choices; the qualify time of now stands with the arrival that is
owed, R89), with no order queued. A busy context alone, no line of the site changing, judges it by its phase: in
PRECHARGE it enters CONNECTING when the equalise bus lies within the match band of its target (R121, R139); in RAMP it
adds the current to its charge sum and enters HOLD at the threshold, 20 mV a cell below the setpoint, its streaks
cleared and a HOLD sweep requested, here on a WAKING line (R74, R92, R123, R124); in HOLD it adds the current, sets
hold elapsed and judges the two limits (R92, R126); in MATCH it strands the string on a set CHG_FAULT, returns it
within the band of the load bus, and else sets the charger to the load bus (R127 to R129). A rise of CHG_FAULT is the
cause CHARGER_FAULT to the charger's holder, here in RETURNING; with no holder it is none (R87; the other phases, and
a RETURN's PRECHARGE, are in FirstCauseIsKept). A fall of CHG_FAULT runs a dispatch scan: a queued EQUALISE or RETURN
whose other needs are met starts in C0, its CHECK or ESTIMATE sweep requested; a sample that shows no fall starts
nothing (R14, R15, R16, R87). A rise of RES_LOW and of RES_EMPTY is handed; RES_EMPTY empties the path, closing an
open valve, with RESERVOIR_EMPTY to its holder, and a clear level ends EMPTY (R144). -/
def Obligations.SampleIsClampedAndKept : Prop :=
  (∀ (s : State) (r : Readings) (order : List Consumer), s.awake = true →
    ∃ t, exec (.sample r order) s = .next t
      ∧ ∃ x, t.eng.latest = some x ∧ x.time = t.eng.clock
        ∧ x.eqVolts = (if 70000 < r.eqVolts then 70000 else r.eqVolts)
        ∧ x.loadVolts = (if 70000 < r.loadVolts then 70000 else r.loadVolts)
        ∧ (x.eqAmps : Int) = (if r.eqAmps < 0 then 0 else if 2000 < r.eqAmps then 2000 else r.eqAmps)
        ∧ x.lines = { chgFault := r.chgFault, resLow := r.resLow, resEmpty := r.resEmpty, mainsOk := r.mainsOk,
                      genRun := r.genRun })
  ∧ (∀ (s : State) (r : Readings), s.attending → s.eng.qualifierOwed = none → s.eng.board.queue = [] →
    let now := if s.eng.advanceTaken then s.eng.clock else s.eng.clock + 1
    let x := sampleOf now r
    let was := latestLines s.eng.latest
    let kept : Engine := { s.eng with
      clock := now, advanceTaken := false, latest := some x,
      qualifierOwed := some (fieldNat s.profile fldQualify) }
    let leaves (e : Engine) : Prop := exec (.sample r []) s = .next { s with eng := e }
    let near (v y : Nat) : Prop :=
      v ≤ y + fieldNat s.profile fldMatchBand ∧ y ≤ v + fieldNat s.profile fldMatchBand
    let toOpen (y : StringRec) : StringRec := { y with
      sel := .goingOpen, commanded := .opened, origin := some .equalise,
      timer := some (fieldNat s.profile fldTransfer) }
    (∀ (c : CtxId) (d : Round) (g : StringId), s.drives c d g → s.onlyBusy c → r.chgFault = was.chgFault →
      r.resLow = was.resLow → r.resEmpty = false → s.eng.water.state ≠ .empty →
      let sum := min 4294967295 (d.chargeSum + x.eqAmps)
      let elapsed := min 43200 (now - d.phaseStart).toNat
      let cap := chargeCap (s.eng.slot d.slot)
      let capped := cap ≠ 0 ∧ 1000 * cap ≤ sum / 36
      let timed := 60 * maxHold (s.eng.slot d.slot) ≤ elapsed
      (d.phase = .precharge → (d.kind = .giveBack → r.chgFault = false) →
        (near x.eqVolts d.prechargeTarget → (s.eng.str g).sel = .atOpen →
          (∀ k, k ≠ g → (s.eng.str k).commanded ≠ .equalise) → leaves
            (let y : StringRec := { s.eng.str g with
               sel := .goingEq, commanded := .equalise, origin := some .opened,
               timer := some (fieldNat s.profile fldTransfer) }
             (kept.putStr g y).putRound c { d with phase := .connecting, phaseStart := now }))
        ∧ (¬ near x.eqVolts d.prechargeTarget → leaves kept))
      ∧ (d.phase = .ramp →
        let threshold := cellsFitted s.profile g * d.perCell - cellsFitted s.profile g * 20
        (x.eqVolts < threshold → leaves (kept.putRound c { d with chargeSum := sum }))
        ∧ (threshold ≤ x.eqVolts → s.eng.line.state = .waking → leaves
          (let d' : Round := { d with
             chargeSum := sum, phase := .hold, phaseStart := now, holdElapsed := 0, settledCells := 0, holdTimer := now,
             holdDue := false }
           let q : Request := { ctx := c, slot := d.slot, mask := 1#8 <<< g.val, purpose := .hold }
           let fresh := (s.eng.cells.get g).map fun z => { z with streak := 0, refKind := .none, reference := 0 }
           { kept.putRound c d' with
             cells := s.eng.cells.set g fresh, line := { s.eng.line with list := s.eng.line.list ++ [q] } })))
      ∧ (d.phase = .hold →
        (¬ capped → ¬ timed → leaves (kept.putRound c { d with chargeSum := sum, holdElapsed := elapsed }))
        ∧ (capped ∨ timed → leaves
          (let d' : Round := { d with
             chargeSum := sum, holdElapsed := elapsed, phase := .matching, phaseStart := now, perCell := 0,
             holdDue := false, pendingOutcome := some (if capped then .eqChargeCap else .eqTimed) }
           { (kept.withdrawSweep c).putRound c d' with charger := { s.eng.charger with setpoint := x.loadVolts } })))
      ∧ (d.phase = .matching → (s.eng.str g).sel = .atEq →
        (r.chgFault = true → leaves
          { (kept.putStr g (toOpen (s.eng.str g))).putRound c
              { d with phase := .returning, phaseStart := now, stranding := true } with
            charger := { enable := false, setpoint := 0, limit := 0 } })
        ∧ (r.chgFault = false → near x.eqVolts x.loadVolts → leaves
          ((kept.putStr g (toOpen (s.eng.str g))).putRound c
            { d with phase := .returning, phaseStart := now, stranding := false }))
        ∧ (r.chgFault = false → ¬ near x.eqVolts x.loadVolts → leaves
          { kept with charger := { s.eng.charger with setpoint := x.loadVolts } })))
    ∧ (was.chgFault = false → r.chgFault = true → r.resLow = was.resLow → r.resEmpty = false →
        s.eng.water.state ≠ .empty →
      (∀ (c : CtxId) (d : Round), s.eng.ctx c = some d → s.onlyBusy c → s.eng.claims.charger = some c →
        d.phase = .returning → leaves (kept.putRound c (d.takeCause .chargerFault)))
      ∧ ((∀ c, s.eng.ctx c = none) → leaves kept))
    ∧ (r.chgFault = was.chgFault →
      let w := s.eng.water
      let low := if r.resLow = true ∧ was.resLow = false then s.alert.capture .resLow else s.alert
      let alert := if r.resEmpty = true ∧ was.resEmpty = false then low.capture .resEmpty else low
      ((∀ c, s.eng.ctx c = none) → w.valve = none → s.eng.claims.water = none → exec (.sample r []) s = .next
        { s with alert := alert, eng := { kept with water := { w with state :=
            if r.resEmpty then if w.state = .ready ∨ w.state = .busy then .empty else w.state
            else if w.state = .empty then .ready else w.state } } })
      ∧ ∀ (c : CtxId) (d : Round) (g : StringId), s.eng.ctx c = some d → s.onlyBusy c → s.eng.claims.water = some c →
        d.phase = .prime ∨ d.phase = .fill → d.coasting = false → d.firstCause = none → w.state = .busy →
        w.valve = some g → r.resEmpty = true → exec (.sample r []) s = .next
          (let d' : Round := { d.takeCause .reservoirEmpty with
             pendingOutcome := some .reservoirEmpty, coasting := true }
           let till := now + BitVec.ofNat 32 (fieldNat s.profile fldStop)
           { s with
             alert := alert,
             eng := { kept.putRound c d' with
               water := { w with state := .empty, valve := none, pump := false, coast := some (g, till) } } })))
  ∧ ∀ (s : State) (r : Readings) (n : SlotId) (g : StringId), s.attending → s.eng.qualifierOwed = none →
    s.eng.board.queue = [n] → (s.eng.slot n).mark = .queued → (∀ c, s.eng.ctx c = none) → s.eng.claims = Claims.blank →
    s.eng.line.state = .waking → r.resLow = (latestLines s.eng.latest).resLow → r.resEmpty = false →
    s.eng.water.state ≠ .empty →
    let now := if s.eng.advanceTaken then s.eng.clock else s.eng.clock + 1
    let kept : Engine := { s.eng with
      clock := now, advanceTaken := false, latest := some (sampleOf now r),
      qualifierOwed := some (fieldNat s.profile fldQualify) }
    let y := s.eng.slot n
    let m := orderMask y
    let every (f : StringRec → Prop) : Prop := ∀ k : StringId, m.getLsbD k.val = true → f (s.eng.str k)
    let starts (k : Kind) (ph : Phase) (u : Purpose) : Prop :=
      ∃ t d, exec (.sample r []) s = .next t ∧ (t.eng.slot n).mark = .running ∧ t.eng.board.queue = []
        ∧ (t.eng.slot n).result.started = now ∧ t.eng.claims.charger = some 0
        ∧ (∀ j : StringId, t.eng.owner j = if m.getLsbD j.val = true then some 0 else none)
        ∧ t.eng.ctx 0 = some d ∧ d.slot = n ∧ d.kind = k ∧ d.phase = ph ∧ d.phaseStart = now ∧ d.cur = some g
        ∧ t.eng.line.list = s.eng.line.list ++ [{ ctx := 0, slot := n, mask := 1#8 <<< g.val, purpose := u }]
        ∧ t.eng.strings = s.eng.strings ∧ t.eng.charger = s.eng.charger ∧ t.alert = s.alert
        ∧ t.eng.latest = kept.latest
    (r.chgFault = true ∨ (latestLines s.eng.latest).chgFault = false →
      exec (.sample r []) s = .next { s with eng := kept })
    ∧ ((latestLines s.eng.latest).chgFault = true → r.chgFault = false → m.getLsbD g.val = true →
      (∀ k : StringId, k < g → m.getLsbD k.val = false) →
      every (fun x => x.census = .established ∧ x.sel ≠ .faulted) →
      (orderCode y = 2 → thenWater y = false → every (fun x => x.stranded = false) →
        s.eng.supply.state = .rich ∨ (s.eng.supply.state = .generator ∧ allowGenerator y = true) →
        starts .equalise .check .check)
      ∧ (orderCode y = 4 → every (fun x => x.stranded = true) → starts .giveBack .sweeping .estimate))

/-- The qualifier takes a sample (SUPPLY_LINE_QUALIFIED, where it is a step of its own, log 11): each line by itself.
A sampled value equal to the qualified one sets the count to 0; one that differs raises it, and the value is taken
when the count reaches the qualify time as the profile held it at the sample, which stands with the arrival that is
owed (SampleIsClampedAndKept): a write of the profile's qualify time in between changes no count, no value and not
that time. The supply state follows the two qualified values (R89, R90). A supply state that has changed is handed to
the alert unit; with no order queued and no context busy nothing else follows, and a sample that leaves the state
hands nothing. With nothing owed the command changes nothing (log 8, the model's inference). -/
def Obligations.SupplyChangeIsHanded : Prop :=
  (∀ (s : State) (x : Sample) (time : Nat), s.attending → s.eng.qualifierOwed = some time → s.eng.latest = some x →
    ∃ t, exec .supplyLineQualified s = .next t
      ∧ (let rule (sampled old : Bool) (count : Nat) (new : Bool) (count' : Nat) : Prop :=
           (sampled = old → new = old ∧ count' = 0)
             ∧ (sampled ≠ old → time ≤ count + 1 → new = sampled ∧ count' = 0)
             ∧ (sampled ≠ old → count + 1 < time → new = old ∧ count' = count + 1)
         rule x.lines.mainsOk s.eng.supply.mains s.eng.supply.mainsCount t.eng.supply.mains t.eng.supply.mainsCount
           ∧ rule x.lines.genRun s.eng.supply.gen s.eng.supply.genCount t.eng.supply.gen t.eng.supply.genCount)
      ∧ t.eng.supply.state = (if t.eng.supply.mains then .rich else if t.eng.supply.gen then .generator else .lean)
      ∧ t.eng.qualifierOwed = none)
  ∧ (∀ (s : State) (i : Instr) (a : BitVec 16) (v : Byte), s.linkUp → s.calm → Sends i ⟨a, [v]⟩ →
    low13 a = 0x0064 → ∃ t, exec i s = .next t ∧ t.eng = s.eng)
  ∧ ∀ (s : State), s.attending → s.unburdened →
    (s.eng.qualifierOwed = none → exec .supplyLineQualified s = .next s)
    ∧ (∀ time : Nat, s.eng.qualifierOwed = some time →
      let u := s.eng.supply.sample time (latestLines s.eng.latest)
      exec .supplyLineQualified s = .next
        { s with
          eng := { s.eng with supply := u, qualifierOwed := none },
          alert := if u.state = s.eng.supply.state then s.alert else s.alert.capture .supplyChange })

/-- REST_ENDED: the event of a string's rest-until time is raised once when the clock has reached it; with no order
queued and no context in REST_WAIT nothing else follows (R94, R112). A context in REST_WAIT for that string alone
takes it by beginning the string, the per-string fields at their starting values: with ONLY_IF_LOW it enters
LEVEL_CHECK and requests a LEVEL sweep, here on a WAKING line, and without it PRIME, the valve open and the pump
running (R146, R151 to R154). A string with no event to come changes nothing. A time is reached when it lies at or
behind the clock (log 7, log 19); the event still to come is a field of the model's own (log 26). That a string with
no event to come changes nothing is the model's inference (log 8). -/
def Obligations.RestEndsOnce : Prop :=
  ∀ (s : State) (g : StringId), s.attending →
    ((s.eng.str g).restArmed = true → (s.eng.clock - (s.eng.str g).restUntil).toNat < 2 ^ 31 →
      s.eng.board.queue = [] →
      let x : StringRec := { s.eng.str g with restArmed := false }
      ((∀ c r, s.eng.ctx c = some r → r.phase ≠ .restWait) →
        exec (.restEnded g) s = .next { s with eng := s.eng.putStr g x })
      ∧ ∀ (c : CtxId) (r : Round), s.eng.ctx c = some r → s.onlyBusy c → r.phase = .restWait →
        r.remaining = 1#8 <<< g.val → (s.eng.str g).restUntil.toNat ≤ s.eng.clock.toNat → (s.eng.str g).sel = .atLoad →
        let begun : Round := { r.startString g (posCount (s.eng.str g).censusSet) with phaseStart := s.eng.clock }
        (onlyIfLow (s.eng.slot r.slot) = true → s.eng.line.state = .waking → exec (.restEnded g) s = .next
          (let q : Request := { ctx := c, slot := r.slot, mask := 1#8 <<< g.val, purpose := .level }
           { s with eng := { (s.eng.putStr g x).putRound c { begun with phase := .levelCheck } with
                             line := { s.eng.line with list := s.eng.line.list ++ [q] } } }))
        ∧ (onlyIfLow (s.eng.slot r.slot) = false → s.eng.claims.water = some c → s.eng.owner g = some c →
          s.eng.water.state = .busy → s.eng.water.valve = none → s.eng.water.coast = none →
          exec (.restEnded g) s = .next
            { s with eng := { (s.eng.putStr g x).putRound c { begun with phase := .prime, enteredPrime := true } with
                              water := { s.eng.water with valve := some g, pump := true } } }))
    ∧ ((s.eng.str g).restArmed = false → exec (.restEnded g) s = .next s)

/-! ## The selectors (chapter 6) -/

/-- The reserve rule: a LOAD to OPEN request of the claim's holder on a fitted string that is AT_LOAD begins the
transfer when the fitted strings AT_LOAD outnumber the reserve count; otherwise it is refused as a reserve refusal and
changes nothing. A request from a context that does not hold the claim is refused and changes nothing (R99 to R101). -/
def Obligations.ReserveRuleGuardsTheLoadBus : Prop :=
  ∀ (e : Engine) (p : Profile) (c : CtxId) (g : StringId),
    (e.owner g = some c → isFitted p g = true → (e.str g).sel = .atLoad →
      let atLoad := (allStrings.filter fun k => isFitted p k && (e.str k).sel == .atLoad).length
      let x : StringRec := { e.str g with
        sel := .goingOpen, commanded := .opened, origin := some .load, timer := some (fieldNat p fldTransfer) }
      (fieldNat p fldReserve < atLoad → e.requestTransfer p c g true .opened = (.taken, e.putStr g x))
        ∧ (atLoad ≤ fieldNat p fldReserve → e.requestTransfer p c g true .opened = (.reserve, e)))
    ∧ (e.owner g ≠ some c → ∀ (b : Bool) (d : Drive), e.requestTransfer p c g b d = (.refused, e))

/-- FEEDBACK_CHANGE on a fitted string: with no context busy, in a transfer, the target completes it, NONE and the origin
leave it in travel; away from its end or uncommanded, the string becomes FAULTED and SELECTOR_FAULT is handed. Until the
settling reading a string AT_LOAD takes the change without a fault; a FAULTED string, and one outside the mask, takes
the observed position alone (R97, R98, R102, R104, R105, R108, R114). A completion is handed to the context that drives
the string: from ISOLATING it enters PRECHARGE with the charger enabled; from CONNECTING it enters RAMP with the
compensated setpoint, or a RETURN enters MATCH; in RETURNING at OPEN it disables the charger and asks for LOAD, and at
LOAD the string closes, here the last of its order, which settles (R38, R120 to R123, R127 to R130, R139, R140). A third
position in a transfer has the effect of the transfer's timeout (R102, R103), to its holder too. -/
def Obligations.FeedbackIsJudgedByTheSelectorState : Prop :=
  ∀ (s : State) (g : StringId) (shown : Contact), s.held = none → s.calm → (s.eng.str g).observed ≠ shown →
    let x := s.eng.str g
    let seen : StringRec := { x with observed := shown }
    let plain : State := { s with eng := s.eng.putStr g seen }
    let thrown : StringRec := { seen with
      sel := .faulted, commanded := .load, stranded := false, timer := none, origin := none, flags := x.flags ||| 0x01 }
    let faulted : State :=
      { s with eng := s.eng.putStr g thrown, alert := s.alert.capture .selectorFault }
    let rests (done : SelState) : StringRec := { seen with sel := done, timer := none, origin := none }
    let toLoad : StringRec := { seen with
      sel := .goingLoad, commanded := .load, origin := some .opened, timer := some (fieldNat s.profile fldTransfer) }
    let off : Charger := { enable := false, setpoint := 0, limit := 0 }
    let leaves (e : Engine) : Prop := exec (.feedbackChange g shown) s = .next { s with eng := e }
    ((∀ c, s.eng.ctx c = none) →
      (isFitted s.profile g = false → exec (.feedbackChange g shown) s = .next plain)
      ∧ (isFitted s.profile g = true →
        (x.sel = .faulted → exec (.feedbackChange g shown) s = .next plain)
        ∧ (x.sel = .atLoad → s.eng.settling ≠ none → exec (.feedbackChange g shown) s = .next plain)
        ∧ (x.sel = .atLoad → s.eng.settling = none → exec (.feedbackChange g shown) s = .next faulted)
        ∧ (x.sel = .atOpen ∨ x.sel = .atEq → exec (.feedbackChange g shown) s = .next faulted)
        ∧ ∀ (goal : Contact) (done : SelState) (out : Bool),
            (x.sel = .goingOpen ∧ goal = .opened ∧ done = .atOpen ∧ out = false)
              ∨ (x.sel = .goingEq ∧ goal = .equalise ∧ done = .atEq ∧ out = false)
              ∨ (x.sel = .goingLoad ∧ goal = .load ∧ done = .atLoad ∧ out = true) →
            (shown = goal → exec (.feedbackChange g shown) s = .next
              (let y : StringRec := { seen with
                 sel := done, timer := none, origin := none, stranded := if out then false else x.stranded }
               { s with eng := s.eng.putStr g y }))
            ∧ (shown ≠ goal → (shown = .between ∨ x.origin = some shown) →
                exec (.feedbackChange g shown) s = .next plain)
            ∧ (shown ≠ goal → shown ≠ .between → x.origin ≠ some shown →
                exec (.feedbackChange g shown) s = .next faulted)))
    ∧ (∀ (c : CtxId) (r : Round), s.drives c r g →
      (x.sel = .goingOpen → shown = .opened → r.phase = .isolating →
        (r.pendingOutcome = none → leaves
          { (s.eng.putStr g (rests .atOpen)).putRound c { r with phase := .precharge, phaseStart := s.eng.clock } with
            charger := { enable := true, setpoint := min 70000 r.prechargeTarget,
                         limit := if r.kind = .giveBack then 100 else currentLimit (s.eng.slot r.slot) } })
        ∧ (r.pendingOutcome ≠ none → leaves
          { (s.eng.putStr g toLoad).putRound c { r with phase := .returning, phaseStart := s.eng.clock } with
            charger := off }))
      ∧ (x.sel = .goingEq → shown = .equalise → r.phase = .connecting →
        (r.kind ≠ .giveBack → r.pendingOutcome = none → leaves
          (let v := perCellSetpoint s.profile (s.eng.slot r.slot) r.compTemp
           { (s.eng.putStr g (rests .atEq)).putRound c
               { r with phase := .ramp, phaseStart := s.eng.clock, perCell := v, enteredRamp := true } with
             charger := { s.eng.charger with setpoint := min 70000 (cellsFitted s.profile g * v) } }))
        ∧ (r.kind = .giveBack → leaves
          { ((s.eng.putStr g (rests .atEq)).withdrawSweep c).putRound c
              { r with phase := .matching, phaseStart := s.eng.clock, perCell := 0, holdDue := false } with
            charger := { s.eng.charger with setpoint := min 70000 (latestLoad s.eng.latest) } }))
      ∧ (x.sel = .goingOpen → shown = .opened → r.phase = .returning → r.stranding = false → leaves
        { (s.eng.putStr g toLoad).putRound c r with charger := off })
      ∧ (x.sel = .goingLoad → shown = .load → r.phase = .returning → r.inWatering = false → r.remaining = 0 →
        thenWater (s.eng.slot r.slot) = false → s.eng.board.queue = [] →
        let o := if r.kind = .giveBack then .returned else r.pendingOutcome.getD .siteAbort
        r.kind ≠ .survey → ∃ t, exec (.feedbackChange g shown) s = .next t
          ∧ (t.eng.str g).sel = .atLoad ∧ (t.eng.str g).stranded = false ∧ (t.eng.str g).timer = none
          ∧ (r.leftLoad = true → (t.eng.str g).lastEqOutcome = some o ∧ (t.eng.str g).lastEqTime = s.eng.clock
            ∧ (t.eng.str g).inRound = false)
          ∧ (t.eng.slot r.slot).mark = .settled ∧ (t.eng.slot r.slot).result.primary.get g = o
          ∧ t.eng.ctx c = none ∧ t.eng.claims.charger = none ∧ t.eng.owner g = none ∧ t.eng.charger = off))
    ∧ ∀ (origin goal : Contact), isFitted s.profile g = true → x.timer ≠ none → x.origin = some origin →
      (x.sel = .goingOpen ∧ goal = .opened) ∨ (x.sel = .goingEq ∧ goal = .equalise)
        ∨ (x.sel = .goingLoad ∧ goal = .load) →
      shown ≠ goal → shown ≠ .between → shown ≠ origin →
      exec (.feedbackChange g shown) s = exec (.transferTimeout g) plain

/-- TRANSFER_TIMEOUT: the transfer has failed, and the string becomes FAULTED with SELECTOR_FAULT handed (R103, R104).
The context that drives it, in ISOLATING, CONNECTING or RETURNING, takes it: the charger is disabled, its sweep
request withdrawn and the string closes SELECTOR_FAULT; here it is the last of its order, which settles, its context
free and its claims released, and SETTLED is handed, the board not standing down (R31, R38, R131). A string that no
context owns is FAULTED alone; with no timer running nothing changes. SETTLING_READING, with no context busy: every
fitted string that is AT_LOAD and not observed there becomes FAULTED and every other stays; it is taken once (R104,
R114). No order waits in the first. Where no transfer timer runs, or the settling reading has been taken, the command
changes nothing (log 8, the model's inference). -/
def Obligations.SelectorTimersThrowTheString : Prop :=
  ∀ (s : State), s.held = none → s.calm →
    (∀ (c : CtxId) (r : Round) (g : StringId), s.drives c r g → (s.eng.str g).timer ≠ none →
      (s.eng.str g).sel = .goingOpen ∨ (s.eng.str g).sel = .goingEq ∨ (s.eng.str g).sel = .goingLoad →
      r.phase = .isolating ∨ r.phase = .connecting ∨ r.phase = .returning → r.kind = .equalise ∨ r.kind = .giveBack →
      r.inWatering = false → r.remaining = 0 → thenWater (s.eng.slot r.slot) = false → s.eng.board.queue = [] →
      ∃ t, exec (.transferTimeout g) s = .next t
        ∧ (t.eng.str g).sel = .faulted ∧ (t.eng.str g).commanded = .load ∧ (t.eng.str g).stranded = false
        ∧ (t.eng.str g).timer = none ∧ (t.eng.str g).origin = none
        ∧ (t.eng.str g).flags = (s.eng.str g).flags ||| 0x01
        ∧ (r.leftLoad = true → (t.eng.str g).lastEqOutcome = some .selectorFault
          ∧ (t.eng.str g).lastEqTime = s.eng.clock ∧ (t.eng.str g).inRound = false)
        ∧ (∀ k, k ≠ g → t.eng.str k = s.eng.str k)
        ∧ t.eng.charger = { enable := false, setpoint := 0, limit := 0 } ∧ t.eng.hasRequest c = false
        ∧ (t.eng.slot r.slot).mark = .settled ∧ (t.eng.slot r.slot).result.primary.get g = .selectorFault
        ∧ (t.eng.slot r.slot).result.settled = s.eng.clock
        ∧ t.eng.ctx c = none ∧ t.eng.claims.charger = none ∧ t.eng.owner g = none
        ∧ (∀ d, d ≠ c → t.eng.ctx d = s.eng.ctx d) ∧ t.eng.cells = s.eng.cells
        ∧ (s.eng.board.standingDown = false → t.alert = (s.alert.capture .selectorFault).capture .settled))
    ∧ (∀ g : StringId,
      ((s.eng.str g).timer ≠ none → (s.eng.str g).sel ≠ .atLoad → s.eng.owner g = none →
        exec (.transferTimeout g) s = .next
          (let x : StringRec := { s.eng.str g with
             sel := .faulted, commanded := .load, stranded := false, timer := none, origin := none,
             flags := (s.eng.str g).flags ||| 0x01 }
           { s with eng := s.eng.putStr g x, alert := s.alert.capture .selectorFault }))
      ∧ ((s.eng.str g).timer = none → exec (.transferTimeout g) s = .next s))
    ∧ (s.eng.settling = none → exec .settlingReading s = .next s)
    ∧ (s.eng.settling ≠ none → (∀ c, s.eng.ctx c = none) →
        ∃ t, exec .settlingReading s = .next t ∧ t.eng.settling = none
        ∧ t.eng.board = s.eng.board ∧ t.eng.cells = s.eng.cells ∧ t.eng.water = s.eng.water
        ∧ t.eng.line = s.eng.line ∧ t.profile = s.profile ∧ t.link = s.link
        ∧ ∀ g : StringId, t.eng.str g =
            if isFitted s.profile g = true ∧ (s.eng.str g).sel = .atLoad ∧ (s.eng.str g).observed ≠ .load then
              { s.eng.str g with
                sel := .faulted, commanded := .load, stranded := false, timer := none, origin := none,
                flags := (s.eng.str g).flags ||| 0x01 }
            else s.eng.str g)

/-- At most one string's selector is commanded to EQUALISE: every step keeps this (R96, R99). -/
def Obligations.OneStringAtMostIsCommandedToEqualise : Prop :=
  ∀ s t : State, s.eng.oneEqualise → stepsTo s t → t.eng.oneEqualise

/-- The pump runs exactly while a valve is open (R146), the charger is enabled only while its claim is held (R115), the
port mode and lock words hold defined values (R177, R197), and no work is left waiting between two commands (`calm`, the
model's own, log 15): every step keeps each of these. A selector's outputs follow its commanded position: none is
energised for LOAD, the first for OPEN, both for EQUALISE, and the second never alone (R96). -/
def Obligations.OutputsAndWordsKeepTheirLaws : Prop :=
  (∀ s t : State, stepsTo s t →
    (s.eng.pumpOk → t.eng.pumpOk) ∧ (s.eng.chargerOk → t.eng.chargerOk) ∧ (s.link.wordsOk → t.link.wordsOk)
      ∧ (s.calm → t.calm))
  ∧ ∀ x : StringRec, (x.commanded = .load → x.outputs = (false, false))
      ∧ (x.commanded = .opened → x.outputs = (true, false)) ∧ (x.commanded = .equalise → x.outputs = (true, true))
      ∧ (x.outputs.2 = true → x.outputs.1 = true)

/-! ## The cell line (chapter 3, chapter 4) -/

/-- A READING frame survives the line: what a sensor sends as levels, bit by bit between a start mark and stop bits, the
receiver takes as the same bytes, and the bytes give back every field with the frame check passed (R198, R199). So do
frames one after another: one that is not complete is cut by the start mark of the next (R55). -/
def Obligations.ReadingFrameRoundTrip : Prop :=
  (∀ bytes : List Byte, bytes.length ≤ readingLength → receiveFrames (frameLevels bytes) = [bytes])
    ∧ (∀ frames : List (List Byte), (∀ f ∈ frames, f.length ≤ readingLength) →
        receiveFrames (frames.map frameLevels).flatten = frames)
    ∧ (∀ r : Reading, receiveFrames (frameLevels (readingFrame r)) = [readingFrame r]
        ∧ readingOf (readingFrame r) = some r)
    ∧ frameCheck [0x31, 0x32, 0x33, 0x34, 0x35, 0x36, 0x37, 0x38, 0x39] = 0x29B1

/-- The line wakes and sleeps: WAKE_PATTERN_SENT starts the settle timer; WAKE_SETTLE_END makes the line ACTIVE with
its error counter 0 and, nothing being listed, starts the idle timer; IDLE_TIMER_EXPIRY sends a SLEEP frame, its kind 2
and its check, as the levels of a start mark and its characters (R198); SLEEP_SENT
makes the line ASLEEP, or WAKING at once if requests were listed (R45, R46). Each changes the line alone. -/
def Obligations.LineWakesAndSleeps : Prop :=
  ∀ s : State, s.attending →
    let l := s.eng.line
    let line (l' : Line) : Host.Outcome State Fault Refusal := .next { s with eng := { s.eng with line := l' } }
    (l.state = .waking → l.sending = .wakePattern → exec .wakePatternSent s =
      line { l with sending := .nothing, settle := some (fieldNat s.profile fldWakeSettle) })
    ∧ (l.settle ≠ none → l.list = [] → l.sweep = none → l.sending = .nothing → l.finishing = false →
      exec .wakeSettleEnd s =
        line { l with settle := none, state := .active, errors := 0, idle := some (fieldNat s.profile fldLineIdle) })
    ∧ (l.idle ≠ none → exec .idleTimerExpiry s = 
        line { l with idle := none, sending := .sleep (frameLevels (withCheck [0x20])) })
    ∧ (∀ f, l.sending = .sleep f →
      (l.list = [] → exec .sleepSent s = line { l with sending := .nothing, state := .asleep })
      ∧ (l.list ≠ [] → exec .sleepSent s = line { l with sending := .wakePattern, state := .waking, settle := none }))

/-- CALL_SENT opens the sweep window for the profile's window time (R51); RECOVERY_EXPIRY sets the three counters to
0, makes a trial pending and sends the wake pattern (R45, R61), no order waiting. Each changes the line alone. Where
the recovery timer does not run, RECOVERY_EXPIRY changes nothing (log 8, the model's inference). -/
def Obligations.CallAndRecovery : Prop :=
  ∀ s : State, s.attending →
    let l := s.eng.line
    (∀ (f : List LineLevel) (w : Sweep), l.sending = .call f → l.sweep = some w → exec .callSent s = .next
      (let l' : Line := { l with sending := .nothing, window := some (fieldNat s.profile fldWindow),
                                 sweep := some { w with windowOpen := true } }
       { s with eng := { s.eng with line := l' } }))
    ∧ (l.recovery ≠ none → s.eng.board.queue = [] → exec .recoveryExpiry s = .next
      (let l' : Line := { l with recovery := none, errors := 0, stuck := 0, silent := 0, trial := true,
                                 state := .waking, sending := .wakePattern, settle := none }
       { s with eng := { s.eng with line := l' } }))
    ∧ (l.recovery = none → exec .recoveryExpiry s = .next s)

/-- FRAME_RECEIVED where the receiver takes frames: a bad frame raises the error counter alone, and at 32 brings the
line to FAULTED with cause DEGRADED, here with no sweep to give back; a sound one that no window awaits raises the
stray count alone, saturating at 65535; one that is not taken changes nothing (R55 to R57, R59, R63). A frame that
comes while the receiver takes none is no event of the part (R55; log 8, the model's inference). -/
def Obligations.BadAndStrayFramesAreCounted : Prop :=
  ∀ (s : State) (levels : List LineLevel) (bytes : List Byte), s.attending → receiveFrames levels = [bytes] →
    let l := s.eng.line
    let line (l' : Line) : Host.Outcome State Fault Refusal := .next { s with eng := { s.eng with line := l' } }
    let taken := (l.state = .asleep ∨ l.state = .waking ∨ l.state = .active) ∧ l.sending = .nothing
    (taken → l.errors + 1 < 32 → (readingOf bytes = none ∨ ∃ r, readingOf bytes = some r ∧ r.inRange = false) →
      exec (.frameReceived levels) s = line { l with errors := l.errors + 1 })
    ∧ (taken → l.errors = 31 → (readingOf bytes = none ∨ ∃ r, readingOf bytes = some r ∧ r.inRange = false) →
      l.list = [] → l.sweep = none → exec (.frameReceived levels) s = .next
        (let l' : Line := { l with
           errors := 32, state := .faulted, cause := .degraded, sending := .nothing, idle := none, settle := none,
           window := none, trial := false, recovery := some (fieldNat s.profile fldRecovery),
           faultCount := min 255 (l.faultCount + 1) }
         { s with eng := { s.eng with line := l' }, alert := s.alert.capture .lineFault }))
    ∧ (taken → ∀ r, readingOf bytes = some r → r.inRange = true → (∀ w, l.sweep = some w → w.windowOpen = false ∨
        r.tag ≠ w.tag ∨ (∀ q : Position, q.val = r.source.toNat % 32 →
          (w.expected.get r.stringId).getLsbD q.val = false ∨ (w.replied.get r.stringId).getLsbD q.val = true)) →
      exec (.frameReceived levels) s = line { l with strayCount := min 65535 (l.strayCount + 1) })
    ∧ (¬ taken → exec (.frameReceived levels) s = .next s)

/-- FRAME_RECEIVED with a good reply that does not make the replied set whole: the reading is stored with the clock,
the miss count is 0, the sticky flags follow the thresholds, CELL_FLAG is handed if one of them was clear, a HOLD reply
that names its context moves the streak, the address joins the replied set, the error counter falls by one and the
silent count is 0 (R58, R67 to R69, R73). -/
def Obligations.GoodReplyIsStored : Prop :=
  ∀ (s : State) (levels : List LineLevel) (bytes : List Byte) (r : Reading) (w : Sweep) (q : Position), s.attending →
    receiveFrames levels = [bytes] → readingOf bytes = some r → r.inRange = true → q.val = r.source.toNat % 32 →
    s.eng.line.receives = true → s.eng.line.sweep = some w → w.windowOpen = true → r.tag = w.tag →
    (w.expected.get r.stringId).getLsbD q.val = true → (w.replied.get r.stringId).getLsbD q.val = false →
    w.replied.set r.stringId (w.replied.get r.stringId ||| 1#24 <<< q.val) ≠ w.expected →
    let x := s.eng.cell r.stringId q
    let stored : Cell := { x with
      voltage := r.voltage, temperature := r.temperature, gravity := r.gravity, level := r.levelOf, misses := 0,
      lastTime := s.eng.clock }
    let held : Cell := if w.req.purpose = .hold ∧ w.withdrawn = false then
        stored.settle (voltBand (s.eng.slot w.req.slot)) (gravityBand (s.eng.slot w.req.slot)) r.voltage r.gravity
      else stored
    let shows : Byte :=
      (if fieldNat s.profile fldCellHigh < r.voltage.toNat then 0x01 else 0)
        ||| (if fieldRead s.profile fldHotAbort < r.temperature.toInt then 0x02 else 0)
        ||| (if r.levelOf = .below then 0x04 else 0) ||| (if r.levelOf = .probeFault then 0x08 else 0)
    exec (.frameReceived levels) s = .next
      (let y : Cell := { held with flags := x.flags ||| shows }
       let w' : Sweep := { w with
         replied := w.replied.set r.stringId (w.replied.get r.stringId ||| 1#24 <<< q.val) }
       let l : Line := { s.eng.line with sweep := some w', errors := s.eng.line.errors - 1, silent := 0 }
       { s with
         eng := { s.eng.putCell r.stringId q y with line := l },
         alert := if shows &&& ~~~ x.flags = 0 then s.alert else s.alert.capture .cellFlag })

/-- SWEEP_WINDOW_END of a sweep that drew a reply, its request withdrawn and none other listed: the misses are counted
from the missing set, the silent count stays, the idle timer starts, and nothing else changes. A fourth sweep in a row
that expects replies and draws none brings the line to FAULTED with cause SILENT, the recovery timer running and
LINE_FAULT handed. Miss accounting raises the miss count of a census cell of an ESTABLISHED string in the missing set by
one, up to 3, and sets SENSOR_LOST as it is raised to 3; every other record stays (R53, R54, R59, R70, R71). -/
def Obligations.WindowEndCountsMissesOrFaults : Prop :=
  (∀ (s : State) (w : Sweep) (k : Nat), s.attending → s.eng.line.window = some k → s.eng.line.sweep = some w →
    w.withdrawn = true → s.eng.line.list = [] → s.eng.line.trial = false → s.eng.line.finishing = false →
    s.eng.line.state = .active → s.eng.line.sending = .nothing →
    ((∃ g q, (w.replied.get g).getLsbD q = true) →
      let counted := s.eng.missAccounting (Vector.ofFn fun g => w.expected.get g &&& ~~~ w.replied.get g)
      exec .sweepWindowEnd s = .next
        (let l : Line := { s.eng.line with sweep := none, window := none, trial := false,
                                           idle := some (fieldNat s.profile fldLineIdle) }
         { s with
           eng := { s.eng with cells := counted.cells, line := l },
           alert := if counted.raised = [] then s.alert else s.alert.capture .cellFlag }))
    ∧ ((∀ g, w.replied.get g = 0) → (∃ g, w.expected.get g ≠ 0) → s.eng.line.silent = 3 →
      exec .sweepWindowEnd s = .next
        (let l : Line := { s.eng.line with
           state := .faulted, cause := .silent, sending := .nothing, idle := none, settle := none, window := none,
           trial := false, recovery := some (fieldNat s.profile fldRecovery), sweep := none, list := [], silent := 4,
           faultCount := min 255 (s.eng.line.faultCount + 1) }
         { s with eng := { s.eng with line := l }, alert := s.alert.capture .lineFault })))
  ∧ ∀ (e : Engine) (missing : AddrSet) (g : StringId) (q : Position),
    (e.missAccounting missing).cell g q =
      if (e.str g).census = .established ∧ (missing.get g).getLsbD q.val = true
          ∧ (e.str g).censusSet.getLsbD q.val = true then
        let x := e.cell g q
        { x with misses := min 3 (x.misses + 1), flags := if x.misses = 2 then x.flags ||| 0x10 else x.flags }
      else e.cell g q

/-- The cell table takes a set of a string's positions: DRY_AFTER_WATER is set in each of those records and in no other,
as one update for the string; CELL_FLAG is handed once if any of them was clear; no other field changes (R72). A context
in VERIFY hands it, on a COMPLETE completion, the census positions that replied and whose stored level reads BELOW, and
closes its string STILL_LOW; with none such the string closes WATERED_UNVERIFIED if a census cell is missing and WATERED
otherwise, and WATERED_UNVERIFIED on a FAILED completion; the completion is counted first (R159). -/
def Obligations.DryAfterWaterIsSet : Prop :=
  (∀ (e : Engine) (g : StringId) (set : List Position),
    (∀ (k : StringId) (q : Position), (e.flagDry g set).cell k q =
      if k = g ∧ q ∈ set then { e.cell k q with flags := (e.cell k q).flags ||| 0x20 } else e.cell k q)
    ∧ (e.flagDry g set).raised
        = e.raised ++ (if ∃ q ∈ set, (e.cell g q).flags &&& 0x20 = 0 then [Event.cellFlag] else [])
    ∧ { e.flagDry g set with cells := e.cells, raised := e.raised } = e)
  ∧ ∀ (e : Engine) (p : Profile) (w : Request) (r : Round) (g : StringId) (replied missing : AddrSet),
    e.ctx w.ctx = some r → r.slot = w.slot → w.purpose = .verify → r.phase = .verify → r.cur = some g →
    let counted : Round := { r with sweepsIssued := min 255 (r.sweepsIssued + 1) }
    let census (q : Position) : Prop := (e.str g).censusSet.getLsbD q.val = true
    (∃ set : List Position,
      (∀ q, q ∈ set ↔ census q ∧ (replied.get g).getLsbD q.val = true ∧ (e.cell g q).level = .below)
      ∧ (set ≠ [] → e.completion p w true replied missing = (e.flagDry g set).closeWater w.ctx counted .stillLow)
      ∧ (set = [] →
        ((∃ q, census q ∧ (missing.get g).getLsbD q.val = true) →
          e.completion p w true replied missing = e.closeWater w.ctx counted .wateredUnverified)
        ∧ ((∀ q, census q → (missing.get g).getLsbD q.val = false) →
          e.completion p w true replied missing = e.closeWater w.ctx counted .watered)))
    ∧ e.completion p w false replied missing
        = e.closeWater w.ctx { counted with sweepsFailed := min 255 (r.sweepsFailed + 1) } .wateredUnverified

/-! ## Equalise rounds (chapter 7) -/

/-- PRECHARGE_TIMEOUT of an EQUALISE string at OPEN: the charger is disabled, the pending outcome is
PRECHARGE_TIMEOUT, and RETURNING is entered with the OPEN to LOAD transfer (R115, R121, R130). Before the time nothing
changes. A time is reached when it lies at or behind the clock (log 7, log 19). That the command changes nothing
before the time is the model's inference (log 8). -/
def Obligations.PrechargeTimeoutReturnsFromOpen : Prop :=
  ∀ (s : State) (c : CtxId) (r : Round) (g : StringId), s.attending → s.drives c r g → r.phase = .precharge →
    (r.kind = .equalise → (s.eng.str g).sel = .atOpen →
      (s.eng.clock - (r.phaseStart + BitVec.ofNat 32 (fieldNat s.profile fldPrecharge))).toNat < 2 ^ 31 →
      exec (.prechargeTimeout c) s = .next
        (let x : StringRec := { s.eng.str g with
           sel := .goingLoad, commanded := .load, origin := some .opened,
           timer := some (fieldNat s.profile fldTransfer) }
         let r' : Round := { r with
           phase := .returning, phaseStart := s.eng.clock, pendingOutcome := some .prechargeTimeout }
         { s with eng := { (s.eng.putStr g x).putRound c r' with
                           charger := { enable := false, setpoint := 0, limit := 0 } } }))
    ∧ ((let d := r.phaseStart + BitVec.ofNat 32 (fieldNat s.profile fldPrecharge)
        2 ^ 31 ≤ (s.eng.clock - d).toNat ∧ 2 ^ 31 ≤ (s.eng.clock + 1 - d).toNat) →
      exec (.prechargeTimeout c) s = .next s)

/-- PRECHARGE_TIMEOUT of the last string of a RETURN: the charger is disabled, the string is stranded again and closes
STRANDED, and, no order waiting, the order settles, its context free and the claims on the charger and the string
released; STRANDED is handed, then SETTLED (here with the board not standing down) (R31, R107, R139, R140). A time is
reached when it lies at or behind the clock (log 7, log 19). -/
def Obligations.ReturnGivesUpItsString : Prop :=
  ∀ (s : State) (c : CtxId) (r : Round) (g : StringId), s.attending → s.drives c r g → r.phase = .precharge →
    r.kind = .giveBack → orderCode (s.eng.slot r.slot) = 4 → (s.eng.str g).sel = .atOpen → r.remaining = 0 →
    r.inWatering = false → r.leftLoad = true → s.eng.board.queue = [] →
    (s.eng.clock - (r.phaseStart + BitVec.ofNat 32 (fieldNat s.profile fldPrecharge))).toNat < 2 ^ 31 →
    ∃ t, exec (.prechargeTimeout c) s = .next t
      ∧ t.eng.charger = { enable := false, setpoint := 0, limit := 0 } ∧ t.eng.ctx c = none
      ∧ t.eng.claims.charger = none ∧ t.eng.owner g = none
      ∧ t.eng.str g = { s.eng.str g with
          stranded := true, flags := (s.eng.str g).flags ||| 0x02, inRound := false, lastEqTime := s.eng.clock,
          lastEqOutcome := some .stranded }
      ∧ (∀ k, k ≠ g → t.eng.str k = s.eng.str k)
      ∧ (t.eng.slot r.slot).mark = .settled ∧ (t.eng.slot r.slot).result.primary.get g = .stranded
      ∧ (t.eng.slot r.slot).result.settled = s.eng.clock ∧ t.eng.cells = s.eng.cells
      ∧ (s.eng.board.standingDown = false → t.alert = (s.alert.capture .stranded).capture .settled)

/-- RAMP_TIMEOUT and HOLD_TIME_LIMIT end the string's work: MATCH is entered with RAMP_TIMEOUT, or with EQ_CHARGE_CAP
or else EQ_TIMED, pending; the per-cell setpoint is 0, the sweep request is withdrawn and the charger is set to the
load bus voltage of the latest sample, its enable and limit unchanged (R48, R115, R123, R126, R127; log 12). A time is
reached when it lies at or behind the clock (log 7, log 19). -/
def Obligations.LimitsEndIntoMatch : Prop :=
  ∀ (s : State) (c : CtxId) (r : Round) (g : StringId), s.attending → s.drives c r g →
    let matching (r' : Round) (o : Outcome) : Host.Outcome State Fault Refusal :=
      let m : Round := { r' with
        phase := .matching, phaseStart := s.eng.clock, pendingOutcome := some o, perCell := 0, holdDue := false }
      .next { s with eng := { (s.eng.withdrawSweep c).putRound c m with
                              charger := { s.eng.charger with setpoint := min 70000 (latestLoad s.eng.latest) } } }
    (r.phase = .ramp →
      (s.eng.clock - (r.phaseStart + BitVec.ofNat 32 (60 * fieldNat s.profile fldRamp))).toNat < 2 ^ 31 →
      exec (.rampTimeout c) s = matching r .rampTimeout)
    ∧ (r.phase = .hold →
      (s.eng.clock - (r.phaseStart + BitVec.ofNat 32 (60 * maxHold (s.eng.slot r.slot)))).toNat < 2 ^ 31 →
      let elapsed := min 43200 (s.eng.clock - r.phaseStart).toNat
      60 * maxHold (s.eng.slot r.slot) ≤ elapsed →
      let cap := chargeCap (s.eng.slot r.slot)
      exec (.holdTimeLimit c) s = matching { r with holdElapsed := elapsed }
        (if cap ≠ 0 ∧ 1000 * cap ≤ r.chargeSum / 36 then .eqChargeCap else .eqTimed))

/-- HOLD_INTERVAL_EXPIRY restarts its timer and makes a HOLD sweep due: while a request of the context is listed or
served it waits, and otherwise the sweep of the current string alone is requested (R47, R124), here on a WAKING line.
A time is reached when it lies at or behind the clock (log 7, log 19). -/
def Obligations.HoldIntervalMakesASweepDue : Prop :=
  ∀ (s : State) (c : CtxId) (r : Round) (g : StringId), s.attending → s.drives c r g → r.phase = .hold →
    (s.eng.clock - (r.holdTimer + BitVec.ofNat 32 (fieldNat s.profile fldHoldInterval))).toNat < 2 ^ 31 →
    (s.eng.hasRequest c = true → exec (.holdIntervalExpiry c) s = .next
      (let r' : Round := { r with holdTimer := s.eng.clock, holdDue := true }
       { s with eng := s.eng.putRound c r' }))
    ∧ (s.eng.hasRequest c = false → s.eng.line.state = .waking → exec (.holdIntervalExpiry c) s = .next
      (let r' : Round := { r with holdTimer := s.eng.clock, holdDue := false }
       let q : Request := { ctx := c, slot := r.slot, mask := 1#8 <<< g.val, purpose := .hold }
       { s with eng := { s.eng.putRound c r' with line := { s.eng.line with list := s.eng.line.list ++ [q] } } }))

/-- MATCH_TIMEOUT begins a stranding return: the charger is disabled and RETURNING is entered, marked as stranding,
with the EQUALISE to OPEN transfer (R127, R129). A time is reached when it lies at or behind the clock (log 7, log
19). -/
def Obligations.MatchTimeoutBeginsAStrandingReturn : Prop :=
  ∀ (s : State) (c : CtxId) (r : Round) (g : StringId), s.attending → s.drives c r g → r.phase = .matching →
    (s.eng.str g).sel = .atEq →
    (s.eng.clock - (r.phaseStart + BitVec.ofNat 32 (60 * fieldNat s.profile fldMatchTimeout))).toNat < 2 ^ 31 →
    exec (.matchTimeout c) s = .next
      (let x : StringRec := { s.eng.str g with
         sel := .goingOpen, commanded := .opened, origin := some .equalise,
         timer := some (fieldNat s.profile fldTransfer) }
       let r' : Round := { r with phase := .returning, phaseStart := s.eng.clock, stranding := true }
       { s with eng := { (s.eng.putStr g x).putRound c r' with
                         charger := { enable := false, setpoint := 0, limit := 0 } } })

/-- The charger port takes ENABLE, SET and DISABLE from the context that holds the charger claim, a setpoint above
70,000 mV as 70,000; from any other context each is refused and changes nothing (R115). -/
def Obligations.ChargerPortObeysItsHolder : Prop :=
  ∀ (e : Engine) (c : CtxId) (volts limit : Nat),
    let v := if 70000 < volts then 70000 else volts
    (e.claims.charger = some c →
      e.chargerEnable c volts limit = { e with charger := { enable := true, setpoint := v, limit := limit } }
      ∧ e.chargerSet c volts = { e with charger := { e.charger with setpoint := v } }
      ∧ e.chargerDisable c = { e with charger := { enable := false, setpoint := 0, limit := 0 } })
    ∧ (e.claims.charger ≠ some c →
      e.chargerEnable c volts limit = e ∧ e.chargerSet c volts = e ∧ e.chargerDisable c = e)

/-! ## Watering rounds (chapter 8) -/

/-- FLOW_PULSE: with a valve open it adds to the holder's volume, in PRIME entering FILL and in FILL restarting the stop
timer, or, at the cap, closing the valve with VOLUME_CAP pending and its sticky flag set; in a coast it adds to the
volume alone; idle, it is counted, and the third faults the path as LEAK; on a FAULTED path without a coast it is not
counted (R148, R149, R154, R156). -/
def Obligations.FlowPulseByPathCondition : Prop :=
  ∀ (s : State), s.held = none → s.calm →
    let w := s.eng.water
    let ml := fieldNat s.profile fldPulse
    (∀ (c : CtxId) (r : Round) (g : StringId), s.eng.claims.water = some c → s.eng.ctx c = some r → r.cur = some g →
      let volume := min 65535 (r.waterVolume + ml)
      (w.valve = some g → r.phase = .prime → exec .flowPulse s = .next
        (let r' : Round := { r with
           waterVolume := volume, phase := .fill, phaseStart := s.eng.clock, lastPulse := s.eng.clock }
         { s with eng := s.eng.putRound c r' }))
      ∧ (w.valve = some g → r.phase = .fill → volume < volumeCap (s.eng.slot r.slot) → exec .flowPulse s = .next
        (let r' : Round := { r with waterVolume := volume, lastPulse := s.eng.clock }
         { s with eng := s.eng.putRound c r' }))
      ∧ (w.valve = some g → r.phase = .fill → volumeCap (s.eng.slot r.slot) ≤ volume → exec .flowPulse s = .next
        (let r' : Round := { r with waterVolume := volume, pendingOutcome := some .volumeCap, coasting := true }
         let x : StringRec := { s.eng.str g with flags := (s.eng.str g).flags ||| 0x04 }
         let till := s.eng.clock + BitVec.ofNat 32 (fieldNat s.profile fldStop)
         { s with eng := { (s.eng.putStr g x).putRound c r' with
                           water := { w with valve := none, pump := false, coast := some (g, till) } } }))
      ∧ (w.valve = none → w.coast ≠ none → exec .flowPulse s = .next
        (let r' : Round := { r with waterVolume := volume }
         { s with eng := s.eng.putRound c r' })))
    ∧ (w.valve = none → w.coast = none → w.state = .faulted → exec .flowPulse s = .next s)
    ∧ (w.valve = none → w.coast = none → w.state ≠ .faulted → w.idle + 1 < 3 → exec .flowPulse s = .next
        { s with eng := { s.eng with water := { w with idle := w.idle + 1 } } })
    ∧ (w.valve = none → w.coast = none → w.state ≠ .faulted → w.idle = 2 → s.eng.claims.water = none →
        s.eng.board.queue = [] → exec .flowPulse s = .next
          { s with
            eng := { s.eng with water := { w with idle := 3, state := .faulted, cause := .leak } },
            alert := s.alert.capture .waterFault })

/-- DRY_TIMER_EXPIRY in PRIME with RES_EMPTY clear: the pump stops and the valve closes, the coast begins, the path is
FAULTED with cause DRY and WATER_FAULT is handed; PUMP_FAULT is the round's first cause and SITE_ABORT is pending.
With RES_EMPTY set the cause and the outcome are RESERVOIR_EMPTY and the path stays as that sample left it (R35, R145,
R148, R155). No order waits. A time is reached when it lies at or behind the clock (log 7, log 19). -/
def Obligations.DryTimeFaultsThePath : Prop :=
  ∀ (s : State) (c : CtxId) (r : Round) (g : StringId), s.attending → s.eng.ctx c = some r → r.cur = some g →
    r.phase = .prime → r.coasting = false → r.firstCause = none → s.eng.water.valve = some g →
    s.eng.claims.water = some c → s.eng.board.queue = [] →
    (s.eng.clock - (r.phaseStart + BitVec.ofNat 32 (fieldNat s.profile fldDry))).toNat < 2 ^ 31 →
    let till := s.eng.clock + BitVec.ofNat 32 (fieldNat s.profile fldStop)
    let closed : Water := { s.eng.water with valve := none, pump := false, coast := some (g, till) }
    ((latestLines s.eng.latest).resEmpty = false → exec (.dryTimerExpiry c) s = .next
      (let r' : Round := { r.takeCause .pumpFault with pendingOutcome := some .siteAbort, coasting := true }
       { s with
         eng := { s.eng.putRound c r' with water := { closed with state := .faulted, cause := .dry } },
         alert := s.alert.capture .waterFault }))
    ∧ ((latestLines s.eng.latest).resEmpty = true → exec (.dryTimerExpiry c) s = .next
      (let r' : Round := { r.takeCause .reservoirEmpty with pendingOutcome := some .reservoirEmpty, coasting := true }
       { s with eng := { s.eng.putRound c r' with water := closed } }))

/-- STOP_TIMER_EXPIRY and FILL_TIMEOUT in FILL: the pump stops, the valve closes and the coast begins, with WATERED or
FILL_TIMEOUT pending; once the valve has closed, an expiry changes nothing (R146, R148, R156, R157). A time is reached
when it lies at or behind the clock (log 7, log 19). -/
def Obligations.FillEndsAtStopOrLimit : Prop :=
  ∀ (s : State) (c : CtxId) (r : Round) (g : StringId), s.attending → s.eng.ctx c = some r → r.phase = .fill →
    (r.coasting = false → s.eng.water.valve = some g →
      let ends (o : Outcome) : Host.Outcome State Fault Refusal :=
        let till := s.eng.clock + BitVec.ofNat 32 (fieldNat s.profile fldStop)
        let r' : Round := { r with pendingOutcome := some o, coasting := true }
        .next { s with eng := { s.eng.putRound c r' with
                                water := { s.eng.water with valve := none, pump := false, coast := some (g, till) } } }
      ((s.eng.clock - (r.lastPulse + BitVec.ofNat 32 (fieldNat s.profile fldStop))).toNat < 2 ^ 31 →
        exec (.stopTimerExpiry c) s = ends .watered)
      ∧ ((s.eng.clock - (r.phaseStart + BitVec.ofNat 32 (60 * fieldNat s.profile fldFill))).toNat < 2 ^ 31 →
        exec (.fillTimeout c) s = ends .fillTimeout))
    ∧ (r.coasting = true →
      ((s.eng.clock - (r.lastPulse + BitVec.ofNat 32 (fieldNat s.profile fldStop))).toNat < 2 ^ 31 →
        exec (.stopTimerExpiry c) s = .next s)
      ∧ ((s.eng.clock - (r.phaseStart + BitVec.ofNat 32 (60 * fieldNat s.profile fldFill))).toNat < 2 ^ 31 →
        exec (.fillTimeout c) s = .next s))

/-- COAST_ENDED and VERIFY_TIMER_EXPIRY: the coast ends when the clock reaches its end; a holder whose pending outcome
is WATERED, with VERIFY set and no site cause taken, then enters VERIFY_WAIT, and at the end of the verify delay it
enters VERIFY and requests a sweep of its string alone, here on a WAKING line (R47, R148, R157 to R159). A time is
reached when it lies at or behind the clock (log 7, log 19). Where no coast runs, COAST_ENDED changes nothing (log 8,
the model's inference). A coast that closes its string (R160) is not stated here. -/
def Obligations.CoastEndsIntoVerification : Prop :=
  ∀ (s : State) (c : CtxId) (r : Round) (g : StringId), s.attending → s.eng.ctx c = some r → r.cur = some g →
    (∀ (k : StringId) (d : Clock), s.eng.water.coast = some (k, d) → (s.eng.clock - d).toNat < 2 ^ 31 →
      s.eng.claims.water = some c → r.phase = .fill → r.coasting = true → r.pendingOutcome = some .watered →
      verifyFlag (s.eng.slot r.slot) = true → r.firstCause = none → exec .coastEnded s = .next
        (let r' : Round := { r with phase := .verifyWait, phaseStart := s.eng.clock, coasting := false }
         { s with eng := { s.eng.putRound c r' with water := { s.eng.water with coast := none } } }))
    ∧ (s.eng.water.coast = none → exec .coastEnded s = .next s)
    ∧ (r.phase = .verifyWait → s.eng.line.state = .waking →
      (s.eng.clock - (r.phaseStart + BitVec.ofNat 32 (fieldNat s.profile fldVerify))).toNat < 2 ^ 31 →
      exec (.verifyTimerExpiry c) s = .next
        (let r' : Round := { r with phase := .verify, phaseStart := s.eng.clock }
         let q : Request := { ctx := c, slot := r.slot, mask := 1#8 <<< g.val, purpose := .verify }
         { s with eng := { s.eng.putRound c r' with line := { s.eng.line with list := s.eng.line.list ++ [q] } } }))
end

