-- ==== Sys2Proof/Laws/State.lean ====
section
/-! SUPPORT. What each update leaves as it is, one lemma per field and update, and what it writes. -/

namespace Sys2Proof.Machine

/-! ## Updates of the blocks -/

@[simp] theorem Engine.setCtx_clock (e : Engine) (c : CtxId) (r : Option Round) : (e.setCtx c r).clock = e.clock := rfl
@[simp] theorem Engine.setCtx_advanceTaken (e : Engine) (c : CtxId) (r : Option Round) : (e.setCtx c r).advanceTaken = e.advanceTaken := rfl
@[simp] theorem Engine.setCtx_latest (e : Engine) (c : CtxId) (r : Option Round) : (e.setCtx c r).latest = e.latest := rfl
@[simp] theorem Engine.setCtx_qualifierOwed (e : Engine) (c : CtxId) (r : Option Round) : (e.setCtx c r).qualifierOwed = e.qualifierOwed := rfl
@[simp] theorem Engine.setCtx_supply (e : Engine) (c : CtxId) (r : Option Round) : (e.setCtx c r).supply = e.supply := rfl
@[simp] theorem Engine.setCtx_board (e : Engine) (c : CtxId) (r : Option Round) : (e.setCtx c r).board = e.board := rfl
@[simp] theorem Engine.setCtx_claims (e : Engine) (c : CtxId) (r : Option Round) : (e.setCtx c r).claims = e.claims := rfl
@[simp] theorem Engine.setCtx_line (e : Engine) (c : CtxId) (r : Option Round) : (e.setCtx c r).line = e.line := rfl
@[simp] theorem Engine.setCtx_cells (e : Engine) (c : CtxId) (r : Option Round) : (e.setCtx c r).cells = e.cells := rfl
@[simp] theorem Engine.setCtx_strings (e : Engine) (c : CtxId) (r : Option Round) : (e.setCtx c r).strings = e.strings := rfl
@[simp] theorem Engine.setCtx_settling (e : Engine) (c : CtxId) (r : Option Round) : (e.setCtx c r).settling = e.settling := rfl
@[simp] theorem Engine.setCtx_charger (e : Engine) (c : CtxId) (r : Option Round) : (e.setCtx c r).charger = e.charger := rfl
@[simp] theorem Engine.setCtx_water (e : Engine) (c : CtxId) (r : Option Round) : (e.setCtx c r).water = e.water := rfl
@[simp] theorem Engine.setCtx_agenda (e : Engine) (c : CtxId) (r : Option Round) : (e.setCtx c r).agenda = e.agenda := rfl
@[simp] theorem Engine.setCtx_raised (e : Engine) (c : CtxId) (r : Option Round) : (e.setCtx c r).raised = e.raised := rfl

@[simp] theorem Engine.putRound_clock (e : Engine) (c : CtxId) (r : Round) : (e.putRound c r).clock = e.clock := rfl
@[simp] theorem Engine.putRound_advanceTaken (e : Engine) (c : CtxId) (r : Round) : (e.putRound c r).advanceTaken = e.advanceTaken := rfl
@[simp] theorem Engine.putRound_latest (e : Engine) (c : CtxId) (r : Round) : (e.putRound c r).latest = e.latest := rfl
@[simp] theorem Engine.putRound_qualifierOwed (e : Engine) (c : CtxId) (r : Round) : (e.putRound c r).qualifierOwed = e.qualifierOwed := rfl
@[simp] theorem Engine.putRound_supply (e : Engine) (c : CtxId) (r : Round) : (e.putRound c r).supply = e.supply := rfl
@[simp] theorem Engine.putRound_board (e : Engine) (c : CtxId) (r : Round) : (e.putRound c r).board = e.board := rfl
@[simp] theorem Engine.putRound_claims (e : Engine) (c : CtxId) (r : Round) : (e.putRound c r).claims = e.claims := rfl
@[simp] theorem Engine.putRound_line (e : Engine) (c : CtxId) (r : Round) : (e.putRound c r).line = e.line := rfl
@[simp] theorem Engine.putRound_cells (e : Engine) (c : CtxId) (r : Round) : (e.putRound c r).cells = e.cells := rfl
@[simp] theorem Engine.putRound_strings (e : Engine) (c : CtxId) (r : Round) : (e.putRound c r).strings = e.strings := rfl
@[simp] theorem Engine.putRound_settling (e : Engine) (c : CtxId) (r : Round) : (e.putRound c r).settling = e.settling := rfl
@[simp] theorem Engine.putRound_charger (e : Engine) (c : CtxId) (r : Round) : (e.putRound c r).charger = e.charger := rfl
@[simp] theorem Engine.putRound_water (e : Engine) (c : CtxId) (r : Round) : (e.putRound c r).water = e.water := rfl
@[simp] theorem Engine.putRound_agenda (e : Engine) (c : CtxId) (r : Round) : (e.putRound c r).agenda = e.agenda := rfl
@[simp] theorem Engine.putRound_raised (e : Engine) (c : CtxId) (r : Round) : (e.putRound c r).raised = e.raised := rfl

@[simp] theorem Engine.putSlot_clock (e : Engine) (n : SlotId) (x : Slot) : (e.putSlot n x).clock = e.clock := rfl
@[simp] theorem Engine.putSlot_advanceTaken (e : Engine) (n : SlotId) (x : Slot) : (e.putSlot n x).advanceTaken = e.advanceTaken := rfl
@[simp] theorem Engine.putSlot_latest (e : Engine) (n : SlotId) (x : Slot) : (e.putSlot n x).latest = e.latest := rfl
@[simp] theorem Engine.putSlot_qualifierOwed (e : Engine) (n : SlotId) (x : Slot) : (e.putSlot n x).qualifierOwed = e.qualifierOwed := rfl
@[simp] theorem Engine.putSlot_supply (e : Engine) (n : SlotId) (x : Slot) : (e.putSlot n x).supply = e.supply := rfl
@[simp] theorem Engine.putSlot_ctxs (e : Engine) (n : SlotId) (x : Slot) : (e.putSlot n x).ctxs = e.ctxs := rfl
@[simp] theorem Engine.putSlot_claims (e : Engine) (n : SlotId) (x : Slot) : (e.putSlot n x).claims = e.claims := rfl
@[simp] theorem Engine.putSlot_line (e : Engine) (n : SlotId) (x : Slot) : (e.putSlot n x).line = e.line := rfl
@[simp] theorem Engine.putSlot_cells (e : Engine) (n : SlotId) (x : Slot) : (e.putSlot n x).cells = e.cells := rfl
@[simp] theorem Engine.putSlot_strings (e : Engine) (n : SlotId) (x : Slot) : (e.putSlot n x).strings = e.strings := rfl
@[simp] theorem Engine.putSlot_settling (e : Engine) (n : SlotId) (x : Slot) : (e.putSlot n x).settling = e.settling := rfl
@[simp] theorem Engine.putSlot_charger (e : Engine) (n : SlotId) (x : Slot) : (e.putSlot n x).charger = e.charger := rfl
@[simp] theorem Engine.putSlot_water (e : Engine) (n : SlotId) (x : Slot) : (e.putSlot n x).water = e.water := rfl
@[simp] theorem Engine.putSlot_agenda (e : Engine) (n : SlotId) (x : Slot) : (e.putSlot n x).agenda = e.agenda := rfl
@[simp] theorem Engine.putSlot_raised (e : Engine) (n : SlotId) (x : Slot) : (e.putSlot n x).raised = e.raised := rfl

@[simp] theorem Engine.modSlot_clock (e : Engine) (n : SlotId) (f : Slot → Slot) : (e.modSlot n f).clock = e.clock := rfl
@[simp] theorem Engine.modSlot_advanceTaken (e : Engine) (n : SlotId) (f : Slot → Slot) : (e.modSlot n f).advanceTaken = e.advanceTaken := rfl
@[simp] theorem Engine.modSlot_latest (e : Engine) (n : SlotId) (f : Slot → Slot) : (e.modSlot n f).latest = e.latest := rfl
@[simp] theorem Engine.modSlot_qualifierOwed (e : Engine) (n : SlotId) (f : Slot → Slot) : (e.modSlot n f).qualifierOwed = e.qualifierOwed := rfl
@[simp] theorem Engine.modSlot_supply (e : Engine) (n : SlotId) (f : Slot → Slot) : (e.modSlot n f).supply = e.supply := rfl
@[simp] theorem Engine.modSlot_ctxs (e : Engine) (n : SlotId) (f : Slot → Slot) : (e.modSlot n f).ctxs = e.ctxs := rfl
@[simp] theorem Engine.modSlot_claims (e : Engine) (n : SlotId) (f : Slot → Slot) : (e.modSlot n f).claims = e.claims := rfl
@[simp] theorem Engine.modSlot_line (e : Engine) (n : SlotId) (f : Slot → Slot) : (e.modSlot n f).line = e.line := rfl
@[simp] theorem Engine.modSlot_cells (e : Engine) (n : SlotId) (f : Slot → Slot) : (e.modSlot n f).cells = e.cells := rfl
@[simp] theorem Engine.modSlot_strings (e : Engine) (n : SlotId) (f : Slot → Slot) : (e.modSlot n f).strings = e.strings := rfl
@[simp] theorem Engine.modSlot_settling (e : Engine) (n : SlotId) (f : Slot → Slot) : (e.modSlot n f).settling = e.settling := rfl
@[simp] theorem Engine.modSlot_charger (e : Engine) (n : SlotId) (f : Slot → Slot) : (e.modSlot n f).charger = e.charger := rfl
@[simp] theorem Engine.modSlot_water (e : Engine) (n : SlotId) (f : Slot → Slot) : (e.modSlot n f).water = e.water := rfl
@[simp] theorem Engine.modSlot_agenda (e : Engine) (n : SlotId) (f : Slot → Slot) : (e.modSlot n f).agenda = e.agenda := rfl
@[simp] theorem Engine.modSlot_raised (e : Engine) (n : SlotId) (f : Slot → Slot) : (e.modSlot n f).raised = e.raised := rfl

@[simp] theorem Engine.putStr_clock (e : Engine) (g : StringId) (x : StringRec) : (e.putStr g x).clock = e.clock := rfl
@[simp] theorem Engine.putStr_advanceTaken (e : Engine) (g : StringId) (x : StringRec) : (e.putStr g x).advanceTaken = e.advanceTaken := rfl
@[simp] theorem Engine.putStr_latest (e : Engine) (g : StringId) (x : StringRec) : (e.putStr g x).latest = e.latest := rfl
@[simp] theorem Engine.putStr_qualifierOwed (e : Engine) (g : StringId) (x : StringRec) : (e.putStr g x).qualifierOwed = e.qualifierOwed := rfl
@[simp] theorem Engine.putStr_supply (e : Engine) (g : StringId) (x : StringRec) : (e.putStr g x).supply = e.supply := rfl
@[simp] theorem Engine.putStr_board (e : Engine) (g : StringId) (x : StringRec) : (e.putStr g x).board = e.board := rfl
@[simp] theorem Engine.putStr_ctxs (e : Engine) (g : StringId) (x : StringRec) : (e.putStr g x).ctxs = e.ctxs := rfl
@[simp] theorem Engine.putStr_claims (e : Engine) (g : StringId) (x : StringRec) : (e.putStr g x).claims = e.claims := rfl
@[simp] theorem Engine.putStr_line (e : Engine) (g : StringId) (x : StringRec) : (e.putStr g x).line = e.line := rfl
@[simp] theorem Engine.putStr_cells (e : Engine) (g : StringId) (x : StringRec) : (e.putStr g x).cells = e.cells := rfl
@[simp] theorem Engine.putStr_settling (e : Engine) (g : StringId) (x : StringRec) : (e.putStr g x).settling = e.settling := rfl
@[simp] theorem Engine.putStr_charger (e : Engine) (g : StringId) (x : StringRec) : (e.putStr g x).charger = e.charger := rfl
@[simp] theorem Engine.putStr_water (e : Engine) (g : StringId) (x : StringRec) : (e.putStr g x).water = e.water := rfl
@[simp] theorem Engine.putStr_agenda (e : Engine) (g : StringId) (x : StringRec) : (e.putStr g x).agenda = e.agenda := rfl
@[simp] theorem Engine.putStr_raised (e : Engine) (g : StringId) (x : StringRec) : (e.putStr g x).raised = e.raised := rfl

@[simp] theorem Engine.modStr_clock (e : Engine) (g : StringId) (f : StringRec → StringRec) : (e.modStr g f).clock = e.clock := rfl
@[simp] theorem Engine.modStr_advanceTaken (e : Engine) (g : StringId) (f : StringRec → StringRec) : (e.modStr g f).advanceTaken = e.advanceTaken := rfl
@[simp] theorem Engine.modStr_latest (e : Engine) (g : StringId) (f : StringRec → StringRec) : (e.modStr g f).latest = e.latest := rfl
@[simp] theorem Engine.modStr_qualifierOwed (e : Engine) (g : StringId) (f : StringRec → StringRec) : (e.modStr g f).qualifierOwed = e.qualifierOwed := rfl
@[simp] theorem Engine.modStr_supply (e : Engine) (g : StringId) (f : StringRec → StringRec) : (e.modStr g f).supply = e.supply := rfl
@[simp] theorem Engine.modStr_board (e : Engine) (g : StringId) (f : StringRec → StringRec) : (e.modStr g f).board = e.board := rfl
@[simp] theorem Engine.modStr_ctxs (e : Engine) (g : StringId) (f : StringRec → StringRec) : (e.modStr g f).ctxs = e.ctxs := rfl
@[simp] theorem Engine.modStr_claims (e : Engine) (g : StringId) (f : StringRec → StringRec) : (e.modStr g f).claims = e.claims := rfl
@[simp] theorem Engine.modStr_line (e : Engine) (g : StringId) (f : StringRec → StringRec) : (e.modStr g f).line = e.line := rfl
@[simp] theorem Engine.modStr_cells (e : Engine) (g : StringId) (f : StringRec → StringRec) : (e.modStr g f).cells = e.cells := rfl
@[simp] theorem Engine.modStr_settling (e : Engine) (g : StringId) (f : StringRec → StringRec) : (e.modStr g f).settling = e.settling := rfl
@[simp] theorem Engine.modStr_charger (e : Engine) (g : StringId) (f : StringRec → StringRec) : (e.modStr g f).charger = e.charger := rfl
@[simp] theorem Engine.modStr_water (e : Engine) (g : StringId) (f : StringRec → StringRec) : (e.modStr g f).water = e.water := rfl
@[simp] theorem Engine.modStr_agenda (e : Engine) (g : StringId) (f : StringRec → StringRec) : (e.modStr g f).agenda = e.agenda := rfl
@[simp] theorem Engine.modStr_raised (e : Engine) (g : StringId) (f : StringRec → StringRec) : (e.modStr g f).raised = e.raised := rfl

@[simp] theorem Engine.putCell_clock (e : Engine) (g : StringId) (q : Position) (x : Cell) : (e.putCell g q x).clock = e.clock := rfl
@[simp] theorem Engine.putCell_advanceTaken (e : Engine) (g : StringId) (q : Position) (x : Cell) : (e.putCell g q x).advanceTaken = e.advanceTaken := rfl
@[simp] theorem Engine.putCell_latest (e : Engine) (g : StringId) (q : Position) (x : Cell) : (e.putCell g q x).latest = e.latest := rfl
@[simp] theorem Engine.putCell_qualifierOwed (e : Engine) (g : StringId) (q : Position) (x : Cell) : (e.putCell g q x).qualifierOwed = e.qualifierOwed := rfl
@[simp] theorem Engine.putCell_supply (e : Engine) (g : StringId) (q : Position) (x : Cell) : (e.putCell g q x).supply = e.supply := rfl
@[simp] theorem Engine.putCell_board (e : Engine) (g : StringId) (q : Position) (x : Cell) : (e.putCell g q x).board = e.board := rfl
@[simp] theorem Engine.putCell_ctxs (e : Engine) (g : StringId) (q : Position) (x : Cell) : (e.putCell g q x).ctxs = e.ctxs := rfl
@[simp] theorem Engine.putCell_claims (e : Engine) (g : StringId) (q : Position) (x : Cell) : (e.putCell g q x).claims = e.claims := rfl
@[simp] theorem Engine.putCell_line (e : Engine) (g : StringId) (q : Position) (x : Cell) : (e.putCell g q x).line = e.line := rfl
@[simp] theorem Engine.putCell_strings (e : Engine) (g : StringId) (q : Position) (x : Cell) : (e.putCell g q x).strings = e.strings := rfl
@[simp] theorem Engine.putCell_settling (e : Engine) (g : StringId) (q : Position) (x : Cell) : (e.putCell g q x).settling = e.settling := rfl
@[simp] theorem Engine.putCell_charger (e : Engine) (g : StringId) (q : Position) (x : Cell) : (e.putCell g q x).charger = e.charger := rfl
@[simp] theorem Engine.putCell_water (e : Engine) (g : StringId) (q : Position) (x : Cell) : (e.putCell g q x).water = e.water := rfl
@[simp] theorem Engine.putCell_agenda (e : Engine) (g : StringId) (q : Position) (x : Cell) : (e.putCell g q x).agenda = e.agenda := rfl
@[simp] theorem Engine.putCell_raised (e : Engine) (g : StringId) (q : Position) (x : Cell) : (e.putCell g q x).raised = e.raised := rfl

@[simp] theorem Engine.holdEntry_clock (e : Engine) (g : StringId) : (e.holdEntry g).clock = e.clock := rfl
@[simp] theorem Engine.holdEntry_advanceTaken (e : Engine) (g : StringId) : (e.holdEntry g).advanceTaken = e.advanceTaken := rfl
@[simp] theorem Engine.holdEntry_latest (e : Engine) (g : StringId) : (e.holdEntry g).latest = e.latest := rfl
@[simp] theorem Engine.holdEntry_qualifierOwed (e : Engine) (g : StringId) : (e.holdEntry g).qualifierOwed = e.qualifierOwed := rfl
@[simp] theorem Engine.holdEntry_supply (e : Engine) (g : StringId) : (e.holdEntry g).supply = e.supply := rfl
@[simp] theorem Engine.holdEntry_board (e : Engine) (g : StringId) : (e.holdEntry g).board = e.board := rfl
@[simp] theorem Engine.holdEntry_ctxs (e : Engine) (g : StringId) : (e.holdEntry g).ctxs = e.ctxs := rfl
@[simp] theorem Engine.holdEntry_claims (e : Engine) (g : StringId) : (e.holdEntry g).claims = e.claims := rfl
@[simp] theorem Engine.holdEntry_line (e : Engine) (g : StringId) : (e.holdEntry g).line = e.line := rfl
@[simp] theorem Engine.holdEntry_strings (e : Engine) (g : StringId) : (e.holdEntry g).strings = e.strings := rfl
@[simp] theorem Engine.holdEntry_settling (e : Engine) (g : StringId) : (e.holdEntry g).settling = e.settling := rfl
@[simp] theorem Engine.holdEntry_charger (e : Engine) (g : StringId) : (e.holdEntry g).charger = e.charger := rfl
@[simp] theorem Engine.holdEntry_water (e : Engine) (g : StringId) : (e.holdEntry g).water = e.water := rfl
@[simp] theorem Engine.holdEntry_agenda (e : Engine) (g : StringId) : (e.holdEntry g).agenda = e.agenda := rfl
@[simp] theorem Engine.holdEntry_raised (e : Engine) (g : StringId) : (e.holdEntry g).raised = e.raised := rfl

@[simp] theorem Engine.modLine_clock (e : Engine) (f : Line → Line) : (e.modLine f).clock = e.clock := rfl
@[simp] theorem Engine.modLine_advanceTaken (e : Engine) (f : Line → Line) : (e.modLine f).advanceTaken = e.advanceTaken := rfl
@[simp] theorem Engine.modLine_latest (e : Engine) (f : Line → Line) : (e.modLine f).latest = e.latest := rfl
@[simp] theorem Engine.modLine_qualifierOwed (e : Engine) (f : Line → Line) : (e.modLine f).qualifierOwed = e.qualifierOwed := rfl
@[simp] theorem Engine.modLine_supply (e : Engine) (f : Line → Line) : (e.modLine f).supply = e.supply := rfl
@[simp] theorem Engine.modLine_board (e : Engine) (f : Line → Line) : (e.modLine f).board = e.board := rfl
@[simp] theorem Engine.modLine_ctxs (e : Engine) (f : Line → Line) : (e.modLine f).ctxs = e.ctxs := rfl
@[simp] theorem Engine.modLine_claims (e : Engine) (f : Line → Line) : (e.modLine f).claims = e.claims := rfl
@[simp] theorem Engine.modLine_cells (e : Engine) (f : Line → Line) : (e.modLine f).cells = e.cells := rfl
@[simp] theorem Engine.modLine_strings (e : Engine) (f : Line → Line) : (e.modLine f).strings = e.strings := rfl
@[simp] theorem Engine.modLine_settling (e : Engine) (f : Line → Line) : (e.modLine f).settling = e.settling := rfl
@[simp] theorem Engine.modLine_charger (e : Engine) (f : Line → Line) : (e.modLine f).charger = e.charger := rfl
@[simp] theorem Engine.modLine_water (e : Engine) (f : Line → Line) : (e.modLine f).water = e.water := rfl
@[simp] theorem Engine.modLine_agenda (e : Engine) (f : Line → Line) : (e.modLine f).agenda = e.agenda := rfl
@[simp] theorem Engine.modLine_raised (e : Engine) (f : Line → Line) : (e.modLine f).raised = e.raised := rfl

@[simp] theorem Engine.modBoard_clock (e : Engine) (f : Board → Board) : (e.modBoard f).clock = e.clock := rfl
@[simp] theorem Engine.modBoard_advanceTaken (e : Engine) (f : Board → Board) : (e.modBoard f).advanceTaken = e.advanceTaken := rfl
@[simp] theorem Engine.modBoard_latest (e : Engine) (f : Board → Board) : (e.modBoard f).latest = e.latest := rfl
@[simp] theorem Engine.modBoard_qualifierOwed (e : Engine) (f : Board → Board) : (e.modBoard f).qualifierOwed = e.qualifierOwed := rfl
@[simp] theorem Engine.modBoard_supply (e : Engine) (f : Board → Board) : (e.modBoard f).supply = e.supply := rfl
@[simp] theorem Engine.modBoard_ctxs (e : Engine) (f : Board → Board) : (e.modBoard f).ctxs = e.ctxs := rfl
@[simp] theorem Engine.modBoard_claims (e : Engine) (f : Board → Board) : (e.modBoard f).claims = e.claims := rfl
@[simp] theorem Engine.modBoard_line (e : Engine) (f : Board → Board) : (e.modBoard f).line = e.line := rfl
@[simp] theorem Engine.modBoard_cells (e : Engine) (f : Board → Board) : (e.modBoard f).cells = e.cells := rfl
@[simp] theorem Engine.modBoard_strings (e : Engine) (f : Board → Board) : (e.modBoard f).strings = e.strings := rfl
@[simp] theorem Engine.modBoard_settling (e : Engine) (f : Board → Board) : (e.modBoard f).settling = e.settling := rfl
@[simp] theorem Engine.modBoard_charger (e : Engine) (f : Board → Board) : (e.modBoard f).charger = e.charger := rfl
@[simp] theorem Engine.modBoard_water (e : Engine) (f : Board → Board) : (e.modBoard f).water = e.water := rfl
@[simp] theorem Engine.modBoard_agenda (e : Engine) (f : Board → Board) : (e.modBoard f).agenda = e.agenda := rfl
@[simp] theorem Engine.modBoard_raised (e : Engine) (f : Board → Board) : (e.modBoard f).raised = e.raised := rfl

@[simp] theorem Engine.openValve_clock (e : Engine) (g : StringId) : (e.openValve g).clock = e.clock := rfl
@[simp] theorem Engine.openValve_advanceTaken (e : Engine) (g : StringId) : (e.openValve g).advanceTaken = e.advanceTaken := rfl
@[simp] theorem Engine.openValve_latest (e : Engine) (g : StringId) : (e.openValve g).latest = e.latest := rfl
@[simp] theorem Engine.openValve_qualifierOwed (e : Engine) (g : StringId) : (e.openValve g).qualifierOwed = e.qualifierOwed := rfl
@[simp] theorem Engine.openValve_supply (e : Engine) (g : StringId) : (e.openValve g).supply = e.supply := rfl
@[simp] theorem Engine.openValve_board (e : Engine) (g : StringId) : (e.openValve g).board = e.board := rfl
@[simp] theorem Engine.openValve_ctxs (e : Engine) (g : StringId) : (e.openValve g).ctxs = e.ctxs := rfl
@[simp] theorem Engine.openValve_claims (e : Engine) (g : StringId) : (e.openValve g).claims = e.claims := rfl
@[simp] theorem Engine.openValve_line (e : Engine) (g : StringId) : (e.openValve g).line = e.line := rfl
@[simp] theorem Engine.openValve_cells (e : Engine) (g : StringId) : (e.openValve g).cells = e.cells := rfl
@[simp] theorem Engine.openValve_strings (e : Engine) (g : StringId) : (e.openValve g).strings = e.strings := rfl
@[simp] theorem Engine.openValve_settling (e : Engine) (g : StringId) : (e.openValve g).settling = e.settling := rfl
@[simp] theorem Engine.openValve_charger (e : Engine) (g : StringId) : (e.openValve g).charger = e.charger := rfl
@[simp] theorem Engine.openValve_agenda (e : Engine) (g : StringId) : (e.openValve g).agenda = e.agenda := rfl
@[simp] theorem Engine.openValve_raised (e : Engine) (g : StringId) : (e.openValve g).raised = e.raised := rfl

@[simp] theorem Engine.releaseString_clock (e : Engine) (g : StringId) : (e.releaseString g).clock = e.clock := rfl
@[simp] theorem Engine.releaseString_advanceTaken (e : Engine) (g : StringId) : (e.releaseString g).advanceTaken = e.advanceTaken := rfl
@[simp] theorem Engine.releaseString_latest (e : Engine) (g : StringId) : (e.releaseString g).latest = e.latest := rfl
@[simp] theorem Engine.releaseString_qualifierOwed (e : Engine) (g : StringId) : (e.releaseString g).qualifierOwed = e.qualifierOwed := rfl
@[simp] theorem Engine.releaseString_supply (e : Engine) (g : StringId) : (e.releaseString g).supply = e.supply := rfl
@[simp] theorem Engine.releaseString_board (e : Engine) (g : StringId) : (e.releaseString g).board = e.board := rfl
@[simp] theorem Engine.releaseString_ctxs (e : Engine) (g : StringId) : (e.releaseString g).ctxs = e.ctxs := rfl
@[simp] theorem Engine.releaseString_line (e : Engine) (g : StringId) : (e.releaseString g).line = e.line := rfl
@[simp] theorem Engine.releaseString_cells (e : Engine) (g : StringId) : (e.releaseString g).cells = e.cells := rfl
@[simp] theorem Engine.releaseString_strings (e : Engine) (g : StringId) : (e.releaseString g).strings = e.strings := rfl
@[simp] theorem Engine.releaseString_settling (e : Engine) (g : StringId) : (e.releaseString g).settling = e.settling := rfl
@[simp] theorem Engine.releaseString_charger (e : Engine) (g : StringId) : (e.releaseString g).charger = e.charger := rfl
@[simp] theorem Engine.releaseString_water (e : Engine) (g : StringId) : (e.releaseString g).water = e.water := rfl
@[simp] theorem Engine.releaseString_agenda (e : Engine) (g : StringId) : (e.releaseString g).agenda = e.agenda := rfl
@[simp] theorem Engine.releaseString_raised (e : Engine) (g : StringId) : (e.releaseString g).raised = e.raised := rfl

@[simp] theorem Engine.hand_clock (e : Engine) (ws : List Work) : (e.hand ws).clock = e.clock := rfl
@[simp] theorem Engine.hand_advanceTaken (e : Engine) (ws : List Work) : (e.hand ws).advanceTaken = e.advanceTaken := rfl
@[simp] theorem Engine.hand_latest (e : Engine) (ws : List Work) : (e.hand ws).latest = e.latest := rfl
@[simp] theorem Engine.hand_qualifierOwed (e : Engine) (ws : List Work) : (e.hand ws).qualifierOwed = e.qualifierOwed := rfl
@[simp] theorem Engine.hand_supply (e : Engine) (ws : List Work) : (e.hand ws).supply = e.supply := rfl
@[simp] theorem Engine.hand_board (e : Engine) (ws : List Work) : (e.hand ws).board = e.board := rfl
@[simp] theorem Engine.hand_ctxs (e : Engine) (ws : List Work) : (e.hand ws).ctxs = e.ctxs := rfl
@[simp] theorem Engine.hand_claims (e : Engine) (ws : List Work) : (e.hand ws).claims = e.claims := rfl
@[simp] theorem Engine.hand_line (e : Engine) (ws : List Work) : (e.hand ws).line = e.line := rfl
@[simp] theorem Engine.hand_cells (e : Engine) (ws : List Work) : (e.hand ws).cells = e.cells := rfl
@[simp] theorem Engine.hand_strings (e : Engine) (ws : List Work) : (e.hand ws).strings = e.strings := rfl
@[simp] theorem Engine.hand_settling (e : Engine) (ws : List Work) : (e.hand ws).settling = e.settling := rfl
@[simp] theorem Engine.hand_charger (e : Engine) (ws : List Work) : (e.hand ws).charger = e.charger := rfl
@[simp] theorem Engine.hand_water (e : Engine) (ws : List Work) : (e.hand ws).water = e.water := rfl
@[simp] theorem Engine.hand_raised (e : Engine) (ws : List Work) : (e.hand ws).raised = e.raised := rfl

@[simp] theorem Engine.raise_clock (e : Engine) (ev : Event) : (e.raise ev).clock = e.clock := rfl
@[simp] theorem Engine.raise_advanceTaken (e : Engine) (ev : Event) : (e.raise ev).advanceTaken = e.advanceTaken := rfl
@[simp] theorem Engine.raise_latest (e : Engine) (ev : Event) : (e.raise ev).latest = e.latest := rfl
@[simp] theorem Engine.raise_qualifierOwed (e : Engine) (ev : Event) : (e.raise ev).qualifierOwed = e.qualifierOwed := rfl
@[simp] theorem Engine.raise_supply (e : Engine) (ev : Event) : (e.raise ev).supply = e.supply := rfl
@[simp] theorem Engine.raise_board (e : Engine) (ev : Event) : (e.raise ev).board = e.board := rfl
@[simp] theorem Engine.raise_ctxs (e : Engine) (ev : Event) : (e.raise ev).ctxs = e.ctxs := rfl
@[simp] theorem Engine.raise_claims (e : Engine) (ev : Event) : (e.raise ev).claims = e.claims := rfl
@[simp] theorem Engine.raise_line (e : Engine) (ev : Event) : (e.raise ev).line = e.line := rfl
@[simp] theorem Engine.raise_cells (e : Engine) (ev : Event) : (e.raise ev).cells = e.cells := rfl
@[simp] theorem Engine.raise_strings (e : Engine) (ev : Event) : (e.raise ev).strings = e.strings := rfl
@[simp] theorem Engine.raise_settling (e : Engine) (ev : Event) : (e.raise ev).settling = e.settling := rfl
@[simp] theorem Engine.raise_charger (e : Engine) (ev : Event) : (e.raise ev).charger = e.charger := rfl
@[simp] theorem Engine.raise_water (e : Engine) (ev : Event) : (e.raise ev).water = e.water := rfl
@[simp] theorem Engine.raise_agenda (e : Engine) (ev : Event) : (e.raise ev).agenda = e.agenda := rfl

@[simp] theorem Engine.modLine_line (e : Engine) (f : Line → Line) : (e.modLine f).line = f e.line := rfl
@[simp] theorem Engine.modBoard_board (e : Engine) (f : Board → Board) : (e.modBoard f).board = f e.board := rfl
@[simp] theorem Engine.hand_agenda (e : Engine) (ws : List Work) : (e.hand ws).agenda = ws ++ e.agenda := rfl
@[simp] theorem Engine.raise_raised (e : Engine) (ev : Event) : (e.raise ev).raised = e.raised ++ [ev] := rfl

/-! ## Updates of the part -/

@[simp] theorem State.withQueue_held (s : State) (q : List Instr) : (s.withQueue q).held = s.held := rfl
@[simp] theorem State.withQueue_profile (s : State) (q : List Instr) : (s.withQueue q).profile = s.profile := rfl
@[simp] theorem State.withQueue_link (s : State) (q : List Instr) : (s.withQueue q).link = s.link := rfl
@[simp] theorem State.withQueue_alert (s : State) (q : List Instr) : (s.withQueue q).alert = s.alert := rfl
@[simp] theorem State.withQueue_eng (s : State) (q : List Instr) : (s.withQueue q).eng = s.eng := rfl

@[simp] theorem State.readBack_pending (s : State) (v : Byte) : (s.readBack v).pending = s.pending := rfl
@[simp] theorem State.readBack_held (s : State) (v : Byte) : (s.readBack v).held = s.held := rfl
@[simp] theorem State.readBack_profile (s : State) (v : Byte) : (s.readBack v).profile = s.profile := rfl
@[simp] theorem State.readBack_alert (s : State) (v : Byte) : (s.readBack v).alert = s.alert := rfl
@[simp] theorem State.readBack_eng (s : State) (v : Byte) : (s.readBack v).eng = s.eng := rfl

@[simp] theorem State.signal_pending (s : State) (ev : Event) : (s.signal ev).pending = s.pending := rfl
@[simp] theorem State.signal_held (s : State) (ev : Event) : (s.signal ev).held = s.held := rfl
@[simp] theorem State.signal_profile (s : State) (ev : Event) : (s.signal ev).profile = s.profile := rfl
@[simp] theorem State.signal_link (s : State) (ev : Event) : (s.signal ev).link = s.link := rfl
@[simp] theorem State.signal_eng (s : State) (ev : Event) : (s.signal ev).eng = s.eng := rfl

@[simp] theorem State.endTransaction_pending (s : State) (b : Bool) : (s.endTransaction b).pending = s.pending := rfl
@[simp] theorem State.endTransaction_held (s : State) (b : Bool) : (s.endTransaction b).held = s.held := rfl
@[simp] theorem State.endTransaction_profile (s : State) (b : Bool) : (s.endTransaction b).profile = s.profile := rfl
@[simp] theorem State.endTransaction_alert (s : State) (b : Bool) : (s.endTransaction b).alert = s.alert := rfl
@[simp] theorem State.endTransaction_eng (s : State) (b : Bool) : (s.endTransaction b).eng = s.eng := rfl

@[simp] theorem State.shiftOut_pending (s : State) (bs : List Byte) : (s.shiftOut bs).pending = s.pending := rfl
@[simp] theorem State.shiftOut_held (s : State) (bs : List Byte) : (s.shiftOut bs).held = s.held := rfl
@[simp] theorem State.shiftOut_profile (s : State) (bs : List Byte) : (s.shiftOut bs).profile = s.profile := rfl
@[simp] theorem State.shiftOut_alert (s : State) (bs : List Byte) : (s.shiftOut bs).alert = s.alert := rfl
@[simp] theorem State.shiftOut_eng (s : State) (bs : List Byte) : (s.shiftOut bs).eng = s.eng := rfl

@[simp] theorem State.withQueue_pending (s : State) (q : List Instr) : (s.withQueue q).pending = q := rfl
@[simp] theorem State.signal_alert (s : State) (ev : Event) : (s.signal ev).alert = s.alert.capture ev := rfl
@[simp] theorem State.readBack_control (s : State) (v : Byte) : (s.readBack v).link.control = v := rfl

end Sys2Proof.Machine
end

