-- ==== Sys2Proof/Laws/Alert.lean ====
section
/-! SUPPORT. The alert unit: every operation on it leaves ALERT# by its two conditions (R187). -/

namespace Sys2Proof.Machine

/-- ALERT# follows the status word and the holdoff timer. -/
def Alert.lineOk (a : Alert) : Prop := a.asserted = (a.status != 0 && a.holdoff.isNone)

theorem Alert.refresh_lineOk (a : Alert) : a.refresh.lineOk := rfl

theorem Alert.capture_lineOk (a : Alert) (ev : Event) (h : a.lineOk) : (a.capture ev).lineOk := by
  unfold Alert.capture
  split
  · rfl
  · exact h

theorem Alert.captures_lineOk (evs : List Event) (a : Alert) (h : a.lineOk) :
    (evs.foldl Alert.capture a).lineOk := by
  induction evs generalizing a with
  | nil => exact h
  | cons ev evs ih => exact ih _ (Alert.capture_lineOk a ev h)

/-- A capture leaves the holdoff timer, the words and the power state as they are. -/
theorem Alert.capture_keeps (a : Alert) (ev : Event) :
    (a.capture ev).holdoff = a.holdoff ∧ (a.capture ev).enables = a.enables
      ∧ (a.capture ev).holdoffWord = a.holdoffWord ∧ (a.capture ev).power = a.power
      ∧ (a.capture ev).resetCause = a.resetCause ∧ (a.capture ev).wakeSource = a.wakeSource
      ∧ (a.capture ev).wakeTimer = a.wakeTimer := by
  unfold Alert.capture
  split <;> exact ⟨rfl, rfl, rfl, rfl, rfl, rfl, rfl⟩

/-- Nothing with bits set is zero. -/
theorem Alert.capture_status (a : Alert) (ev : Event) :
    (a.capture ev).status = if a.captures ev then a.status ||| ev.mask else a.status := by
  unfold Alert.capture
  split <;> simp [Alert.refresh, *]

end Sys2Proof.Machine
end

