-- ==== Sys2Proof/Laws/Drain.lean ====
section
/-! SUPPORT. Work that hands over nothing is over at once; the events it raised are judged. -/

namespace Sys2Proof.Machine

/-- With nothing waiting, nothing is done. -/
theorem Engine.drain_nil (p : Profile) (k : Nat) (e : Engine) (h : e.agenda = []) : Engine.drain p k e = e := by
  cases k with
  | zero => rfl
  | succ k => simp [Engine.drain, h]

/-- One piece of work, then the rest. -/
theorem Engine.drain_succ (p : Profile) (k : Nat) (e : Engine) (h : e.agenda ≠ []) :
    Engine.drain p (k + 1) e = Engine.drain p k (e.workNext p) := by
  cases ha : e.agenda with
  | nil => exact absurd ha h
  | cons w ws => simp [Engine.drain, ha]

/-- What the blocks do where they hand over no work: it is done, and its events are judged. -/
theorem State.act_idle (s : State) (f : Engine → Engine) (h : (f s.eng).agenda = []) :
    s.act f = { s with eng := { f s.eng with raised := [] },
                       alert := (f s.eng).raised.foldl Alert.capture s.alert } := by
  simp only [State.act, State.absorb, Engine.drain_nil _ _ _ h]
  rw [show ({ f s.eng with raised := [], agenda := [] } : Engine) = { f s.eng with raised := [] } by rw [← h]]

/-- Whatever the blocks do, nothing is left waiting. -/
theorem State.act_calm (s : State) (f : Engine → Engine) : (s.act f).calm := ⟨rfl, rfl⟩

/-- What the blocks do where they hand over nothing at all. -/
theorem State.act_plain (s : State) (f : Engine → Engine) (h : (f s.eng).agenda = []) (hr : (f s.eng).raised = []) :
    s.act f = { s with eng := f s.eng } := by
  rw [State.act_idle s f h, hr]
  simp only [List.foldl_nil]
  rw [show ({ f s.eng with raised := [] } : Engine) = f s.eng by rw [← hr]]

/-- The part does what an attending part does. -/
theorem State.whenAwake_attending (s : State) (f : Engine → Engine) (h : s.attending) : s.whenAwake f = s.act f := by
  simp [State.whenAwake, h.1]

theorem State.whenFree_attending (s : State) (f : Engine → Engine) (h : s.attending) : s.whenFree f = s.act f := by
  have h1 := h.1
  simp only [State.awake, Bool.and_eq_true] at h1
  simp [State.whenFree, h1.1]

/-- Acting leaves the queue, the reset state, the profile and the link as they are. -/
@[simp] theorem State.act_pending (s : State) (f : Engine → Engine) : (s.act f).pending = s.pending := rfl
@[simp] theorem State.act_held (s : State) (f : Engine → Engine) : (s.act f).held = s.held := rfl
@[simp] theorem State.act_profile (s : State) (f : Engine → Engine) : (s.act f).profile = s.profile := rfl
@[simp] theorem State.act_link (s : State) (f : Engine → Engine) : (s.act f).link = s.link := rfl

end Sys2Proof.Machine
end

