-- ==== Sys2Proof/Laws/Frames.lean ====
section
/-! SUPPORT. The receiver hears what is sent: a character between two others, and a frame cut at rest (R55, R198). -/

namespace Sys2Proof.Machine

/-- Eight data bits, shifted in least significant first, make the byte they were taken from. -/
theorem shiftIn_bits (v : Byte) :
    shiftIn (shiftIn (shiftIn (shiftIn (shiftIn (shiftIn (shiftIn (shiftIn 0 (bitLevel (v.getLsbD 0)))
      (bitLevel (v.getLsbD 1))) (bitLevel (v.getLsbD 2))) (bitLevel (v.getLsbD 3))) (bitLevel (v.getLsbD 4)))
      (bitLevel (v.getLsbD 5))) (bitLevel (v.getLsbD 6))) (bitLevel (v.getLsbD 7)) = v := by
  revert v; decide +kernel

/-- One bit time, and what the rest of the levels bring after it. -/
theorem Hearing.frames_cons (h : Hearing) (x : LineLevel) (xs : List LineLevel) :
    h.frames (x :: xs) = (h.hear x).2.toList ++ (h.hear x).1.frames xs := by
  rw [Hearing.frames]
  generalize h.hear x = y
  obtain ⟨h', _ | bytes⟩ := y <;> rfl

/-- A dominant level between two characters is a start bit. -/
theorem Hearing.hear_start (h : Hearing) (bytes : List Byte) (hf : h.frame = some bytes) (hc : h.char = none) :
    h.hear .dominant = ({ level := .dominant, run := h.runOf .dominant, frame := some bytes, char := some (0, 0) }, none)
    := by
  simp [Hearing.hear, Hearing.gap, hf, hc]

/-- A data bit joins its character, whatever its level, and nothing ends. -/
theorem Hearing.hear_bit (l x : LineLevel) (r : Nat) (bytes : List Byte) (k : Nat) (v : Byte) (hk : k < 8) :
    Hearing.hear { level := l, run := r, frame := some bytes, char := some (k, v) } x
      = ({ level := x, run := if x = l then r + 1 else 1, frame := some bytes, char := some (k + 1, shiftIn v x) }, none)
    := by
  simp [Hearing.hear, Hearing.runOf, hk]

/-- A recessive stop bit ends the character, and with the eleventh the frame. -/
theorem Hearing.frames_stop (l : LineLevel) (r : Nat) (bytes : List Byte) (v : Byte) (rest : List LineLevel) :
    ∃ r', Hearing.frames { level := l, run := r, frame := some bytes, char := some (8, v) } (.recessive :: rest) =
      if bytes.length + 1 = readingLength then
        (bytes ++ [v]) :: Hearing.frames { level := .recessive, run := r', frame := none, char := none } rest
      else Hearing.frames { level := .recessive, run := r', frame := some (bytes ++ [v]), char := none } rest := by
  refine ⟨if .recessive = l then r + 1 else 1, ?_⟩
  rw [Hearing.frames_cons]
  by_cases h : bytes.length + 1 = readingLength <;>
    simp [Hearing.hear, Hearing.stop, Hearing.done, Hearing.runOf, h]

/-- The receiver takes a character that is sent as its byte; with the eleventh the frame is complete. -/
theorem Hearing.frames_char (h : Hearing) (bytes : List Byte) (v : Byte) (rest : List LineLevel)
    (hf : h.frame = some bytes) (hc : h.char = none) :
    ∃ r, h.frames (charLevels v ++ rest) =
      if bytes.length + 1 = readingLength then
        (bytes ++ [v]) :: Hearing.frames { level := .recessive, run := r, frame := none, char := none } rest
      else Hearing.frames { level := .recessive, run := r, frame := some (bytes ++ [v]), char := none } rest := by
  simp only [charLevels, List.cons_append, List.nil_append]
  rw [Hearing.frames_cons, Hearing.hear_start h bytes hf hc]
  iterate 8
    rw [Hearing.frames_cons, Hearing.hear_bit _ _ _ _ _ _ (by decide)]
  simp only [Option.toList_none, List.nil_append, shiftIn_bits]
  exact Hearing.frames_stop _ _ _ _ _

end Sys2Proof.Machine
end

