-- ==== Sys2Proof/Laws/Link.lean ====
section
/-! SUPPORT. A WRITE of one byte: what it applies, and what its commit is; what a kept equal profile byte leaves (nothing changed). -/

namespace Sys2Proof.Machine

/-- The two address bytes of a transaction, put together again. -/
@[simp] theorem addressOf_split (a : BitVec 16) : addressOf (a.extractLsb' 8 8) (a.extractLsb' 0 8) = a := by
  apply BitVec.eq_of_getLsbD_eq
  intro i hi
  simp only [addressOf, BitVec.getLsbD_append, BitVec.getLsbD_extractLsb']
  by_cases h : i < 8
  · simp [h]
  · have h2 : i - 8 < 8 := by omega
    have h3 : 8 + (i - 8) = i := by omega
    simp [h, h2, h3]

theorem low13_lt (a : BitVec 16) : low13 a < 8192 := Nat.mod_lt _ (by decide)

/-- The first byte of a burst is at its start address, whatever the port mode (R170). -/
@[simp] theorem burstAddr_zero (mode : Byte) (a : BitVec 16) : burstAddr mode a 0 = low13 a := by
  simp [burstAddr, Nat.mod_eq_of_lt (low13_lt a)]

/-- A WRITE of one byte applies that byte. -/
@[simp] theorem appliedBytes_one (mode : Byte) (a : BitVec 16) (v : Byte) :
    appliedBytes mode ⟨a, [v]⟩ = [(low13 a, v)] := by
  simp [appliedBytes, burstBytes, applyLater]

/-- A WRITE of one byte commits. -/
theorem framing_one (a : BitVec 16) (v : Byte) :
    (WriteBurst.raw ⟨a, [v]⟩).framing = .write ⟨a, [v]⟩ := by
  simp [WriteBurst.raw, RawTransaction.framing]

/-- Where no arrival is owed to the qualifier, a transaction finds the part as it is. -/
theorem State.settleFor_settled (s : State) (t : RawTransaction) (h : s.eng.qualifierOwed = none) :
    s.settleFor t = s := by
  unfold State.settleFor
  split <;> simp [State.settleQualifier, h]

/-- A transaction that commits nothing finds the part as it is. -/
theorem State.settleFor_other (s : State) (t : RawTransaction) (h : ∀ w, t.framing ≠ .write w) : s.settleFor t = s := by
  unfold State.settleFor
  split
  · rename_i w hw; exact absurd hw (h w)
  · rfl

/-- A WRITE of one byte that does not ask for DORMANT finds the part as it is. -/
theorem State.settleFor_one (s : State) (a : BitVec 16) (v : Byte) (h : low13 a = 0x0004 → v ≠ 0x02) :
    s.settleFor (WriteBurst.raw ⟨a, [v]⟩) = s := by
  simp only [State.settleFor, framing_one, appliedBytes_one]
  rw [if_neg]
  simp only [List.contains_cons, List.contains_nil, Bool.or_false, beq_iff_eq, Prod.mk.injEq]
  exact fun ⟨ha, hv⟩ => h ha.symm hv.symm

/-- A transaction with a part that is ACTIVE and whose link is not deaf. -/
theorem State.transact_linkUp (s : State) (t : RawTransaction) (h : s.linkUp) :
    s.transact t = (s.settleFor t).serve t := by
  simp [State.transact, h.1, State.wake, h.2]

/-- A WRITE of one byte that does not ask for DORMANT, to a part that is ACTIVE and whose link is not deaf. -/
theorem State.transact_one (s : State) (a : BitVec 16) (v : Byte) (h : s.linkUp) (hd : low13 a = 0x0004 → v ≠ 0x02) :
    s.transact (WriteBurst.raw ⟨a, [v]⟩)
      = (s.shiftOut (WriteBurst.raw ⟨a, [v]⟩).bytes).commit ⟨a, [v]⟩ := by
  simp [State.transact_linkUp s _ h, State.settleFor_one s a v hd, State.serve, framing_one]

/-! ## A kept profile byte (R178, log 37) -/

/-- A kept byte equal to the value it replaces changes nothing. -/
theorem State.writeProfile_equal (s : State) (k : Nat) (v : Byte) (h : profileByte s.profile k = v) :
    s.writeProfile k v = s := by
  rw [State.writeProfile, if_pos h]

end Sys2Proof.Machine
end

