-- ==== Sys2Proof/Laws/Ops.lean ====
section
/-! SUPPORT. What the records read after they are written, and what the shared operations can do. -/

namespace Sys2Proof.Machine

/-! ## Reading a record after a write -/

theorem get_set_same {α : Type} {n : Nat} (v : Vector α n) (i : Fin n) (x : α) : (v.set i x).get i = x := by
  show (v.set i x)[i.val] = x
  simp

theorem get_set_other {α : Type} {n : Nat} (v : Vector α n) {i j : Fin n} (x : α) (h : j ≠ i) :
    (v.set i x).get j = v.get j := by
  show (v.set i x)[j.val] = v[j.val]
  have h' : i.val ≠ j.val := fun y => h (Fin.ext y.symm)
  rw [Vector.getElem_set_ne]
  exact h'

@[simp] theorem Engine.ctx_putRound_same (e : Engine) (c : CtxId) (r : Round) : (e.putRound c r).ctx c = some r :=
  get_set_same _ _ _

theorem Engine.ctx_putRound_other (e : Engine) {c d : CtxId} (r : Round) (h : d ≠ c) :
    (e.putRound c r).ctx d = e.ctx d := get_set_other _ _ h

@[simp] theorem Engine.str_putStr_same (e : Engine) (g : StringId) (x : StringRec) : (e.putStr g x).str g = x :=
  get_set_same _ _ _

theorem Engine.str_putStr_other (e : Engine) {g k : StringId} (x : StringRec) (h : k ≠ g) :
    (e.putStr g x).str k = e.str k := get_set_other _ _ h

@[simp] theorem Engine.slot_putSlot_same (e : Engine) (n : SlotId) (x : Slot) : (e.putSlot n x).slot n = x :=
  get_set_same _ _ _

theorem Engine.slot_putSlot_other (e : Engine) {n m : SlotId} (x : Slot) (h : m ≠ n) :
    (e.putSlot n x).slot m = e.slot m := get_set_other _ _ h

@[simp] theorem Engine.modStr_same (e : Engine) (g : StringId) (f : StringRec → StringRec) :
    (e.modStr g f).str g = f (e.str g) := Engine.str_putStr_same _ _ _

@[simp] theorem Engine.modSlot_same (e : Engine) (n : SlotId) (f : Slot → Slot) :
    (e.modSlot n f).slot n = f (e.slot n) := Engine.slot_putSlot_same _ _ _

/-! ## The charger port (R115) -/

/-- A command from a context that does not hold the charger claim changes nothing. -/
theorem Engine.charger_refused (e : Engine) (c : CtxId) (v l : Nat) (h : e.claims.charger ≠ some c) :
    e.chargerEnable c v l = e ∧ e.chargerSet c v = e ∧ e.chargerDisable c = e := by
  simp [Engine.chargerEnable, Engine.chargerSet, Engine.chargerDisable, h]

/-! ## Valves (R146) -/

/-- A close leaves the pump stopped wherever the pump ran only with a valve open. -/
theorem Engine.closeValve_pump (e : Engine) (p : Profile) (h : e.water.pump = e.water.valve.isSome) :
    (e.closeValve p).water.pump = false ∧ (e.closeValve p).water.valve = none := by
  unfold Engine.closeValve
  split
  · exact ⟨rfl, rfl⟩
  · rename_i hv; simp [h, hv]

/-! ## Transfers (R99, R100) -/

/-- A refusal changes no state, output or timer. -/
theorem Engine.requestTransfer_refused (e : Engine) (p : Profile) (c : CtxId) (g : StringId) (b : Bool) (d : Drive)
    (h : (e.requestTransfer p c g b d).1 ≠ .taken) : (e.requestTransfer p c g b d).2 = e := by
  generalize hx : e.requestTransfer p c g b d = x at h ⊢
  unfold Engine.requestTransfer at hx
  repeat' split at hx
  all_goals subst hx; first | rfl | exact absurd rfl h

end Sys2Proof.Machine
end

