-- ==== Sys2Proof/WellFormed.lean ====
section
/-! DEFINITION. When a command is one that can arise: its operands lie in the ranges the spec gives them, and a
link transaction is of the sort its row names. -/

namespace Sys2Proof

open Machine

/-- Every consumer of a sample but perhaps the qualifier, whose taking may be a step of its own (log 11). -/
def Consumer.others : List Consumer :=
  [.charger, .water, .context 0, .context 1, .context 2, .context 3, .board]

/-- The order in which a sample is taken names no consumer twice, and leaves out none but the qualifier. -/
def sampleOrderOk (order : List Consumer) : Bool :=
  decide order.Nodup && Consumer.others.all fun k => order.contains k

/-- The command is well formed. -/
def Instr.wellFormed : Instr → Bool
  | .read t => match t.raw.framing with
    | .read _ => true
    | _ => false
  | .framingError t => decide (t.extraBits < 8) && (match t.framing with
    | .error _ _ => true
    | _ => false)
  | .registerWrite w => w.carries isRegisterByte
  | .bodyWrite w => w.carries fun x => isBodyAddr x.1
  | .profileWrite w => w.carries fun x => isProfileAddr x.1
  | .eventStatusClear w => w.carries fun x => isStatusAddr x.1
  | .standDown w => w.carries fun x => x.1 == 0x0004 && x.2 == 0x01
  | .goDormant w => w.carries fun x => x.1 == 0x0004 && x.2 == 0x02
  | .confirmProfile w => w.carries fun x => x.1 == 0x0004 && x.2 == 0x03
  | .post w => w.carries fun x => isMarkAddr x.1 && x.2 == 0x01
  | .release w => w.carries fun x => isMarkAddr x.1 && x.2 == 0x00
  | .withdraw w => w.carries fun x => isMarkAddr x.1 && x.2 == 0x06
  | .startByExpiry _ => true
  | .restEnded _ => true
  | .sample _ order => sampleOrderOk order
  | .supplyLineQualified => true
  | .holdTimeLimit _ => true
  | .feedbackChange _ _ => true
  | .transferTimeout _ => true
  | .settlingReading => true
  | .wakePatternSent => true
  | .wakeSettleEnd => true
  | .idleTimerExpiry => true
  | .sleepSent => true
  | .callSent => true
  | .frameReceived levels => !(receiveFrames levels).isEmpty
  | .sweepWindowEnd => true
  | .recoveryExpiry => true
  | .prechargeTimeout _ => true
  | .rampTimeout _ => true
  | .holdIntervalExpiry _ => true
  | .matchTimeout _ => true
  | .flowPulse => true
  | .dryTimerExpiry _ => true
  | .stopTimerExpiry _ => true
  | .fillTimeout _ => true
  | .coastEnded => true
  | .verifyTimerExpiry _ => true
  | .holdoffExpiry => true
  | .wakeTimerExpiry => true
  | .supplyWake _ => true
  | .powerOnReset _ => true
  | .pinReset _ => true
  | .partClockAdvance => true
  | .csRiseAfterReset => true

end Sys2Proof
end

