-- ==== Sys2Proof/Tests/Slice0.lean ====
section
/-! SUPPORT. The model's own tests: WellFormed's checks, worked values of the manual, and for every statement with
hypotheses a concrete state and operands that meet them. -/

namespace Sys2Proof.Tests

open Sys2Proof.Machine

-- One test at a time: elaborated side by side, the tests take a thread and its stack each.
set_option Elab.async false

/-! ## WellFormed refuses an ill-formed term of every check -/

/-- A WRITE of one byte. -/
def one (a : BitVec 16) (v : Byte) : WriteBurst := ⟨a, [v]⟩

theorem test_read_of_65_is_ill_formed : Instr.wellFormed (.read (.data 0 65)) = false := by decide
theorem test_read_is_well_formed : Instr.wellFormed (.read (.data 0x1FFF 64)) = true := by decide
theorem test_sound_read_is_no_framing_error : Instr.wellFormed (.framingError ⟨[0x11, 0, 0, 0], 0⟩) = false := by
  decide
theorem test_nine_extra_bits_are_ill_formed : Instr.wellFormed (.framingError ⟨[0x11], 9⟩) = false := by decide
theorem test_framing_error_is_well_formed : Instr.wellFormed (.framingError ⟨[0x22, 0, 0], 0⟩) = true := by decide
theorem test_register_write_of_a_mark : Instr.wellFormed (.registerWrite (one 0x0100 0x01)) = false := by decide
theorem test_register_write_of_nothing : Instr.wellFormed (.registerWrite ⟨0x0003, []⟩) = false := by decide
theorem test_register_write_is_well_formed : Instr.wellFormed (.registerWrite (one 0xE003 0x07)) = true := by decide
theorem test_body_write_of_a_mark : Instr.wellFormed (.bodyWrite (one 0x0140 0x01)) = false := by decide
theorem test_body_write_is_well_formed : Instr.wellFormed (.bodyWrite (one 0x015F 0x01)) = true := by decide
theorem test_profile_write_of_a_port_word : Instr.wellFormed (.profileWrite (one 0x003F 0)) = false := by decide
theorem test_profile_write_is_well_formed : Instr.wellFormed (.profileWrite (one 0x0040 0)) = true := by decide
theorem test_status_clear_of_the_enables : Instr.wellFormed (.eventStatusClear (one 0x0014 1)) = false := by decide
theorem test_status_clear_is_well_formed : Instr.wellFormed (.eventStatusClear (one 0x0013 1)) = true := by decide
theorem test_stand_down_of_another_command : Instr.wellFormed (.standDown (one 0x0004 2)) = false := by decide
theorem test_go_dormant_of_another_command : Instr.wellFormed (.goDormant (one 0x0004 3)) = false := by decide
theorem test_confirm_of_another_command : Instr.wellFormed (.confirmProfile (one 0x0004 1)) = false := by decide
theorem test_post_of_another_request : Instr.wellFormed (.post (one 0x0100 0x06)) = false := by decide
theorem test_release_of_another_request : Instr.wellFormed (.release (one 0x0100 0x06)) = false := by decide
theorem test_withdraw_of_another_request : Instr.wellFormed (.withdraw (one 0x0100 0x00)) = false := by decide
theorem test_sample_order_naming_one_twice :
    Instr.wellFormed (.sample ⟨0, 0, 0, false, false, false, false, false⟩ (.charger :: Consumer.others)) = false := by
  decide
theorem test_sample_order_leaving_one_out :
    Instr.wellFormed (.sample ⟨0, 0, 0, false, false, false, false, false⟩ [.charger]) = false := by decide
theorem test_frame_without_start_mark : Instr.wellFormed (.frameReceived [.dominant, .recessive]) = false := by
  decide

/-! ## Values the manual works out -/

theorem test_frame_check_of_1_to_9 :
    frameCheck [0x31, 0x32, 0x33, 0x34, 0x35, 0x36, 0x37, 0x38, 0x39] = 0x29B1 := by
  decide +kernel

/-- A CALL is 4 bytes and a SLEEP 3, each after a start mark of thirteen bit times (section 11.8). -/
theorem test_lengths_sent :
    (frameLevels (callFrame 5 0x04)).length = 53 ∧ (frameLevels sleepFrame).length = 43 := by decide +kernel

/-- A gap of ten recessive bit times is borne; one more cuts the frame, the stop bit and trailing ones counted. -/
theorem test_gap_of_ten :
    let gap := fun n => frameLevels [0x7F] ++ List.replicate n .recessive ++ charLevels 0x12
    receiveFrames (gap 9) = [[0x7F, 0x12]] ∧ receiveFrames (gap 10) = [[0x7F]]
      ∧ receiveFrames (frameLevels [0xFF] ++ [.recessive] ++ charLevels 0x12) = [[0xFF, 0x12]]
      ∧ receiveFrames (frameLevels [0xFF] ++ List.replicate 2 .recessive ++ charLevels 0x12) = [[0xFF]] := by
  decide +kernel

/-- A dominant stop bit cuts the frame, and its run goes on into the start mark of the next. -/
theorem test_dominant_stop_bit :
    receiveFrames (startMark ++ List.replicate 11 .dominant ++ [.recessive] ++ charLevels 0x55)
      = [[], [0x55]] := by decide +kernel

theorem test_status_byte_after_power_on : State.reset.statusByte = 0x90 := by decide

theorem test_no_word_spells_a_command (nbits w : Nat) : decodeTableWord nbits w = none := rfl

/-- The qualifier's worked example (chapter 5): clocks 1001 to 1006. -/
def qualifierRun (ls : List (Bool × Bool)) : SupplyUnit :=
  ls.foldl (fun u l => u.sample 3 ⟨false, false, false, l.1, l.2⟩)
    { mains := true, gen := false, mainsCount := 0, genCount := 0, state := .rich }

theorem test_qualifier_at_1003 :
    qualifierRun [(false, false), (false, false), (false, true)]
      = { mains := false, gen := false, mainsCount := 0, genCount := 1, state := .lean } := by decide

theorem test_qualifier_at_1005 :
    qualifierRun [(false, false), (false, false), (false, true), (false, true), (true, true)]
      = { mains := false, gen := true, mainsCount := 1, genCount := 0, state := .generator } := by decide

/-- The charge sum's worked example (chapter 5). -/
theorem test_charge_field : 1250 / 36 = 34 ∧ 1550 / 36 = 43 := by decide

/-- The site profile of the tests: strings 0 to 3 are fitted. -/
def profile4 : Profile := putProfileByte Profile.powerOn 0 0x0F

theorem test_profile_passes : profileReject profile4 = none := by decide
theorem test_power_on_profile_fails_at_the_mask : profileReject Profile.powerOn = some 0x00 := by decide
theorem test_reserve_count_of_zero_fails : profileReject (putProfileByte profile4 1 0) = some 0x01 := by decide
theorem test_reserve_count_not_below_fitted_fails : profileReject (putProfileByte profile4 1 4) = some 0x01 := by decide
theorem test_flags_bit_7_fails : profileReject (putProfileByte profile4 0x2D 0x85) = some 0x2D := by decide
theorem test_field_out_of_range_reads_as_nearest_end :
    fieldNat (putProfileByte profile4 0x28 200) fldFill = 30 := by decide

/-! ## States of the tests -/

/-- The reset state with its blocks changed. -/
def onEngine (f : Engine → Engine) : State := { State.reset with eng := f State.reset.eng }

/-- The reset state with its alert unit changed. -/
def onAlert (f : Alert → Alert) : State := { State.reset with alert := f State.reset.alert }

/-- The reset state with its line changed. -/
def onLine (f : Line → Line) : State := onEngine fun e => e.modLine f

/-- The reset state with slot 3 changed. -/
def onSlot (f : Slot → Slot) : State := onEngine fun e => e.modSlot 3 f

/-- The reset state with string 2 changed. -/
def onString (f : StringRec → StringRec) : State := onEngine fun e => e.modStr 2 f

/-- A slot with a kind and one more body byte. -/
def bodyOf (kind : Byte) (off : Nat) (v : Byte) (x : Slot) : Slot :=
  let b := (x.body.set 0 kind).set 2 0x01
  { x with body := if h : off - 1 < 31 then b.set (off - 1) v h else b }

/-- The address of slot 3's mark. -/
def mark3 : BitVec 16 := 0x01C0

/-- A round of slot 3 on string 2 in a phase, its timers started at clock 0. -/
def roundIn (k : Kind) (ph : Phase) : Round :=
  { freshRound Slot.blank 3 k 0 with phase := ph, cur := some 2, remaining := 0 }

/-- A part at clock 50,000 with C1 busy with a round, the claims of its string, the charger and the path its own, and
strings 0 to 3 fitted. -/
def busyWith (r : Round) (f : Engine → Engine) : State :=
  let e := State.reset.eng.putRound 1 r
  let e : Engine := { e with
    clock := 50000,
    claims := { charger := some 1, water := some 1, strings := Claims.blank.strings.set 2 (some 1) } }
  { State.reset with profile := profile4, eng := f e }

/-- A sweep of string 2 whose window is open, with the sets of string 2 that are expected and have replied. -/
def sweepOf (expected replied : PosSet) : Sweep :=
  { req := { ctx := 1, slot := 3, mask := 0x04, purpose := .hold }, withdrawn := true, tag := 5,
    expected := AddrSet.empty.set 2 expected, replied := AddrSet.empty.set 2 replied, windowOpen := true }

/-- A sound READING of string 2, position 1, with tag 5. -/
def reading : Reading :=
  { tag := 5, source := 0x41, voltage := 2400, temperature := 250, level := 0, gravity := 0 }

/-! ## What the statements assume is met -/

theorem test_reset_port_words :
    (List.range 28).map State.reset.readByte
      = [0x4D, 0x03, 0x01, 0, 0, 0, 50, 0, 0, 0, 0, 0, 0, 0, 0, 0, 0, 0, 0x01, 0x00, 0xFF, 0xFF, 0, 0xFF, 0, 0, 0, 0] := by
  decide +kernel

theorem test_reset_profile :
    (List.range 64).map (profileByte State.reset.profile)
      = [0x00, 2, 24, 24, 24, 24, 24, 24, 24, 24, 0x8C, 0x0A, 0xC2, 0x01, 0xF4, 0x01, 3, 0xF4, 0x01, 0xF4, 0x01, 60, 0,
         60, 30, 0, 10, 60, 0, 0xF4, 0x01, 60, 0, 20, 120, 0, 5, 10, 20, 8, 10, 120, 0, 0, 0, 0x05]
        ++ List.replicate 17 0x00 ++ [0x00] := by
  decide +kernel

theorem test_reset_profile_fields :
    fieldNat State.reset.profile fldMatchBand = 500 ∧ fieldNat State.reset.profile fldTransfer = 500
      ∧ fieldNat State.reset.profile fldHoldInterval = 30 ∧ fieldNat State.reset.profile fldRest = 60 := by
  decide +kernel

theorem test_reset_attends : State.reset.attending ∧ State.reset.linkUp ∧ State.reset.unburdened := by decide +kernel

theorem test_witness_step : ({ State.reset with pending := [.flowPulse] } : State).pending = .flowPulse :: [] := rfl

theorem test_witness_read : State.reset.linkUp ∧ 64 ≤ 64 ∧ 0 ≤ 64 := by decide

theorem test_witness_framing :
    State.reset.linkUp ∧ RawTransaction.framing ⟨[0x22, 0x00, 0x03], 0⟩ = .error (some 0x22) (some (0x0003, []))
      ∧ RawTransaction.framing ⟨[0x22, 0x00, 0x03, 0x07], 0⟩ = .write ⟨0x0003, [0x07]⟩
      ∧ RawTransaction.framing ⟨[0x11], 0⟩ = .read none ∧ RawTransaction.framing ⟨[], 0⟩ = .nothing
      ∧ 64 < (List.replicate 65 (0 : Byte)).length := by
  decide +kernel

theorem test_witness_wake :
    ({ State.reset with held := some .pin } : State).linkDeaf = true
      ∧ (onAlert fun a => { a with power := .dormant }).alert.power = .dormant
      ∧ (onAlert fun a => { a with power := .dormant }).linkDeaf = false := by decide

theorem test_witness_commit :
    State.reset.linkUp ∧ 1 ≤ (one 0 0).data.length ∧ (one 0 0).data.length ≤ 64
      ∧ State.reset.link.portMode = State.reset.link.portMode ∧ Sends (.post (one 0 0)) (one 0 0)
      ∧ (0x0004, 0x02#8) ∈ appliedBytes 0 (one 0x0004 0x02) ∧ (0x0004, 0x02#8) ∉ appliedBytes 0 (one 0 0) := by
  refine ⟨?_, ?_, ?_, rfl, ?_, ?_, ?_⟩
  case refine_4 => exact Or.inr (Or.inr (Or.inr (Or.inr (Or.inr (Or.inr (Or.inr (Or.inl rfl)))))))
  all_goals decide

theorem test_witness_port_mode : State.reset.linkUp ∧ low13 0xE003 = 0x0003 ∧ (0x08 : Byte) &&& 0xF8 ≠ 0 := by decide

theorem test_witness_register_words :
    State.reset.linkUp ∧ low13 0x0005 = 0x0005 ∧ low13 0x0006 = 0x0006 ∧ low13 0x0014 = 0x0014
      ∧ low13 0x0015 = 0x0015 := by decide

theorem test_witness_unkept :
    low13 0x0002 < 0x0003 ∧ low13 0x0007 = 0x0007 ∧ low13 0x0011 = 0x0011 ∧ low13 0x0016 = 0x0016
      ∧ low13 0x003F = 0x003F ∧ low13 0x0080 = 0x0080 ∧ low13 0x00FF = 0x00FF ∧ low13 0x0500 = 0x0500
      ∧ low13 0x0120 % 64 = 32 ∧ low13 0x04FF % 64 = 63 ∧ low13 0x0004 = 0x0004
      ∧ (0x04 : Byte) ≠ 0x01 ∧ (0x04 : Byte) ≠ 0x02 ∧ (0x04 : Byte) ≠ 0x03 := by decide

theorem test_witness_body :
    low13 0x0101 = 0x0100 + 64 * (0 : SlotId).val + 1 + 0 ∧ low13 0x04DF = 0x0100 + 64 * (15 : SlotId).val + 1 + 30
      ∧ (State.reset.eng.slot 15).mark = .free ∧ ((onSlot fun x => { x with mark := .settled }).eng.slot 3).mark ≠ .free
      := by decide

theorem test_witness_profile :
    State.reset.linkUp ∧ State.reset.calm ∧ low13 0x0040 = 0x0040 + 0 ∧ low13 0x007F = 0x0040 + 0x3F
      ∧ (onSlot fun x => { x with mark := .queued }).eng.noOrders = false ∧ State.reset.eng.noOrders = true
      ∧ State.reset.link.lock ≠ 0xA5 ∧ profileByte State.reset.profile 1 = 2
      ∧ profileByte State.reset.profile (2 + (0 : StringId).val) = 24
      ∧ profileByte State.reset.profile (2 + (7 : StringId).val) = 24
      ∧ profileByte State.reset.profile 0x3E ≠ 7 := by decide +kernel

theorem test_witness_cells_fitted :
    State.reset.linkUp ∧ State.reset.calm ∧ State.reset.eng.noOrders = true ∧ State.reset.eng.board.queue = []
      ∧ low13 0x0042 = 0x0042 + (0 : StringId).val ∧ low13 0x0049 = 0x0042 + (7 : StringId).val
      ∧ profileByte State.reset.profile (2 + (7 : StringId).val) ≠ 12 := by decide +kernel

theorem test_witness_fitted_mask :
    State.reset.unburdened ∧ low13 0x0040 = 0x0040 ∧ fittedMask State.reset.profile ≠ 0x0F
      ∧ ((onString fun x => { x with observed := .between }).eng.str 2).sel = .atLoad
      ∧ ((onString fun x => { x with observed := .between }).eng.str 2).observed ≠ .load := by decide +kernel

theorem test_witness_confirm :
    State.reset.linkUp ∧ low13 0x0004 = 0x0004 ∧ profileReject profile4 = none
      ∧ profileReject State.reset.profile = some 0 := by decide +kernel

theorem test_witness_confirm_fails :
    profileChecks Profile.powerOn = [] ++ (fldMask, false) :: (profileChecks Profile.powerOn).tail := by decide +kernel

theorem test_witness_status :
    low13 0x0012 = 0x0012 ∧ low13 0x0013 = 0x0013 ∧ State.reset.alert.status &&& 0x0001 ≠ 0
      ∧ State.reset.alert.status &&& 0x0100 = 0 := by decide

/-- The qualify time at 0x0064 is raised between a sample and its taking: the time of the sample stands (R89). -/
theorem test_qualify_time_of_the_sample :
    let x := sampleOf 1 ⟨0, 0, 0, true, false, false, true, false⟩
    let s := onEngine fun e => { e with qualifierOwed := some 1, latest := some x }
    let t := s.transact (one 0x0064 60).raw
    fieldNat t.profile fldQualify = 60 ∧ t.eng = s.eng ∧ t.settleQualifier.eng.supply.state = .rich
      ∧ t.settleQualifier.eng.qualifierOwed = none := by
  decide +kernel

/-- After a power-on reset a write of 24 to a cells-fitted, which is 24, leaves the copy at 0 (R178, log 37); a write of
12 sets it. -/
theorem test_copy_follows_a_change :
    let copy (v : Byte) : Byte := ((State.reset.transact (one 0x0042 v).raw).eng.str 0).cellsCopy
    copy 24 = 0 ∧ copy 12 = 12 := by
  decide +kernel

/-- A part that may rest: no status bit is set. -/
def resting : State := onAlert fun a => { a with status := 0, asserted := false }

theorem test_witness_dormancy :
    resting.linkUp ∧ resting.eng.qualifierOwed = none ∧ resting.mayRest = true ∧ State.reset.mayRest = false
      ∧ (onEngine fun e => { e with qualifierOwed := some 5 }).linkUp := by
  decide +kernel

theorem test_witness_timers_and_wakes :
    let s := onAlert fun a => { a with power := .dormant, wakeTimer := some 0, holdoff := some 500 }
    s.held = none ∧ s.alert.holdoff ≠ none ∧ State.reset.alert.holdoff = none ∧ s.alert.power = .dormant
      ∧ s.alert.wakeTimer = some 0 ∧ (s.eng.clock - 0).toNat < 2 ^ 31 ∧ 2 ^ 31 ≤ (s.eng.clock - 1).toNat
      ∧ State.reset.alert.wakeTimer = none ∧ (profileByte s.profile 0x2D).getLsbD 2 = true
      ∧ (profileByte (putProfileByte s.profile 0x2D 0) 0x2D).getLsbD 2 = false := by decide +kernel

theorem test_witness_laws :
    State.reset.alertOk ∧ State.reset.eng.oneEqualise ∧ State.reset.eng.pumpOk ∧ State.reset.eng.chargerOk
      ∧ State.reset.link.wordsOk ∧ stepsTo State.reset State.reset :=
  ⟨rfl, by unfold Engine.oneEqualise; decide +kernel, rfl, by unfold Engine.chargerOk; decide, ⟨rfl, Or.inl rfl⟩, rfl⟩

theorem test_witness_resets :
    State.reset.held = none ∧ State.reset.takePinReset.held = some .pin
      ∧ State.reset.takePinReset.eng.line.state = .off := by decide

theorem test_witness_clock :
    State.reset.awake = true ∧ State.reset.alert.power = .active ∧ State.reset.takePinReset.held ≠ none := by decide

theorem test_witness_post_refused :
    low13 mark3 = 0x0100 + 64 * (3 : SlotId).val ∧ low13 0x04C0 = 0x0100 + 64 * (15 : SlotId).val
      ∧ (State.reset.eng.slot 3).mark = .free
      ∧ State.reset.eng.refusal State.reset.profile (State.reset.eng.slot 3) = some .unknownKind := by
  decide

theorem test_check_order :
    let e := State.reset.eng
    let y := bodyOf 2 6 0 Slot.blank
    e.refusal profile4 y = some .profileUnconfirmed ∧ e.refusal profile4 (bodyOf 1 7 0 Slot.blank) = some .paramRange
      ∧ e.refusal Profile.powerOn (bodyOf 1 7 1 Slot.blank) = some .stringNotFitted
      ∧ e.refusal profile4 (bodyOf 1 7 1 Slot.blank) = none
      ∧ (e.modBoard fun b => { b with standingDown := true }).refusal profile4 y = some .standingDown := by
  decide +kernel

/-- A part with slot 3 holding a SURVEY of string 0 with one sweep, strings 0 to 3 fitted and the line WAKING. -/
def surveyReady : State :=
  let s := onSlot (bodyOf 1 7 1)
  { s with profile := profile4, eng := s.eng.modLine fun l => { l with state := .waking } }

/-- The same part with every context busy. -/
def surveyWaits : State :=
  { surveyReady with eng := allCtxs.foldl (fun e c => e.putRound c (roundIn .survey .sweeping)) surveyReady.eng }

theorem test_witness_post_queued :
    surveyWaits.linkUp ∧ surveyWaits.calm ∧ (surveyWaits.eng.slot 3).mark = .free
      ∧ surveyWaits.eng.refusal surveyWaits.profile (surveyWaits.eng.slot 3) = none
      ∧ orderCode (surveyWaits.eng.slot 3) ≠ 5 ∧ surveyWaits.eng.freeCtx = none
      ∧ surveyWaits.eng.board.queue.length < 16 ∧ 3 ∉ surveyWaits.eng.board.queue := by decide +kernel

theorem test_witness_survey_starts :
    surveyReady.linkUp ∧ surveyReady.calm ∧ (surveyReady.eng.slot 3).mark = .free
      ∧ surveyReady.eng.refusal surveyReady.profile (surveyReady.eng.slot 3) = none
      ∧ orderCode (surveyReady.eng.slot 3) = 1 ∧ bodyByte (surveyReady.eng.slot 3) 6 = 0 ∧ surveyReady.unburdened
      ∧ surveyReady.eng.board.favoured = none ∧ surveyReady.eng.line.state = .waking := by decide +kernel

/-- The same part with RECOUNT set in the SURVEY. -/
def recountReady : State := { surveyReady with eng := surveyReady.eng.modSlot 3 (bodyOf 1 6 1) }

theorem test_witness_recount_starts :
    recountReady.linkUp ∧ recountReady.calm ∧ (recountReady.eng.slot 3).mark = .free
      ∧ recountReady.eng.refusal recountReady.profile (recountReady.eng.slot 3) = none
      ∧ orderCode (recountReady.eng.slot 3) = 1 ∧ bodyByte (recountReady.eng.slot 3) 6 = 1 ∧ recountReady.unburdened
      ∧ recountReady.eng.board.favoured = none ∧ recountReady.eng.line.state = .waking
      ∧ ∀ g, recountReady.eng.owner g = none := by decide +kernel

theorem test_witness_census :
    let r := { roundIn .survey .census with cur := none, sweepsIssued := 1 }
    let e := (busyWith r fun e => e.modLine fun l => { l with state := .waking }).eng
    let q : Request := { ctx := 1, slot := 3, mask := 0x04, purpose := .census }
    e.ctx q.ctx = some r ∧ r.slot = q.slot ∧ r.phase = .census ∧ r.inWatering = false ∧ q.purpose = .census
      ∧ e.line.state = .waking := by decide +kernel

theorem test_witness_clear :
    let s : State := { onSlot (bodyOf 5 6 0x0F) with profile := profile4 }
    s.linkUp ∧ s.calm ∧ (s.eng.slot 3).mark = .free ∧ s.eng.refusal s.profile (s.eng.slot 3) = none
      ∧ orderCode (s.eng.slot 3) = 5 ∧ s.eng.board.queue = [] := by decide +kernel

theorem test_witness_release :
    ((onSlot fun x => { x with mark := .settled }).eng.slot 3).mark = .settled
      ∧ ((onSlot fun x => { x with mark := .refused }).eng.slot 3).mark = .refused
      ∧ State.reset.linkUp ∧ State.reset.calm ∧ low13 0x0018 = 0x0018 ∧ low13 0x0019 = 0x0019 := by decide +kernel

/-- Slot 3 alone is QUEUED, with a deadline. -/
def queued3 : State :=
  let s := onSlot fun x => { bodyOf 1 7 1 x with mark := .queued, deadline := some 0 }
  { s with eng := s.eng.modBoard fun b => { b with queue := [3] } }

/-- Slot 3 is RUNNING in C1, its string on its way back. -/
def returning3 (note : Bool) : State :=
  busyWith (roundIn .equalise .returning) fun e => e.modSlot 3 fun x => { x with mark := .running, withdrawNote := note }

theorem test_witness_withdraw :
    (queued3.eng.slot 3).mark = .queued ∧ queued3.eng.board.queue = [3] ∧ queued3.linkUp ∧ queued3.calm
      ∧ (returning3 true).linkUp ∧ (returning3 true).calm ∧ ((returning3 true).eng.slot 3).withdrawNote = true
      ∧ ((returning3 false).eng.slot 3).mark = .running ∧ ((returning3 false).eng.slot 3).withdrawNote = false
      ∧ (returning3 false).eng.ctxOf 3 = some 1
      ∧ (returning3 false).eng.ctx 1 = some (roundIn .equalise .returning) := by decide +kernel

theorem test_witness_first_cause :
    (roundIn .equalise .hold).firstCause = none
      ∧ ((roundIn .equalise .hold).takeCause .leak).firstCause ≠ none := by decide

theorem test_witness_mark_errors :
    (queued3.eng.slot 3).mark ≠ .free ∧ (State.reset.eng.slot 3).mark = .free ∧ (0x02 : Byte) ≠ 0x00
      ∧ (0x02 : Byte) ≠ 0x01 ∧ (0x02 : Byte) ≠ 0x06 ∧ (queued3.eng.slot 3).mark ≠ .settled
      ∧ (queued3.eng.slot 3).mark ≠ .refused ∧ queued3.linkUp := by decide

theorem test_witness_sends : Sends (.registerWrite (one mark3 0x02)) (one mark3 0x02) := Or.inl rfl

theorem test_witness_stand_down :
    (onEngine fun e => e.modBoard fun b => { b with standingDown := true }).eng.board.standingDown = true
      ∧ State.reset.eng.board.standingDown = false ∧ State.reset.unburdened
      ∧ (returning3 false).eng.board.queue = [] ∧ (∃ c, (returning3 false).eng.ctx c ≠ none)
      ∧ (∀ c, (returning3 false).eng.ctx c = none
          ∨ (returning3 false).eng.ctx c = some (roundIn .equalise .returning)) := by decide +kernel

theorem test_witness_deadline :
    queued3.attending ∧ (queued3.eng.slot 3).deadline = some 0 ∧ (queued3.eng.clock - 0).toNat < 2 ^ 31
      ∧ (State.reset.eng.slot 3).mark ≠ .queued ∧ 2 ^ 31 ≤ (queued3.eng.clock - 2).toNat
      ∧ 2 ^ 31 ≤ (queued3.eng.clock + 1 - 2).toNat := by decide +kernel

/-- A part that has taken a sample showing mains, which the qualifier has yet to take. -/
def owed : State :=
  onEngine fun e => { e with latest := some (sampleOf 1 ⟨80000, -5, 54000, false, false, false, true, false⟩),
                             qualifierOwed := some 5 }

theorem test_witness_samples :
    owed.awake = true ∧ owed.eng.qualifierOwed = some 5 ∧ owed.attending ∧ owed.unburdened
      ∧ owed.eng.latest = some (sampleOf 1 ⟨80000, -5, 54000, false, false, false, true, false⟩)
      ∧ State.reset.eng.qualifierOwed = none := by decide +kernel

/-- A part whose qualifier owes nothing and whose latest sample has these lines, with a round of C1 on string 2, its
selector as given. -/
def sampling (r : Round) (sel : SelState) (fault : Bool) : State :=
  busyWith r fun e =>
    let e := e.modStr 2 fun x => { x with sel := sel }
    { e with latest := some (sampleOf 49999 ⟨54000, 100, 54000, fault, false, false, true, false⟩),
             line := { e.line with state := .waking } }

theorem test_witness_sample_in_a_round :
    let pre := { roundIn .equalise .precharge with prechargeTarget := 54000 }
    let ramp := { roundIn .equalise .ramp with perCell := 2400 }
    let hold := roundIn .equalise .hold
    let back := roundIn .equalise .matching
    let s := sampling pre .atOpen false
    s.attending ∧ s.eng.qualifierOwed = none ∧ s.eng.board.queue = [] ∧ s.drives 1 pre 2 ∧ s.onlyBusy 1
      ∧ (latestLines s.eng.latest).chgFault = false ∧ (latestLines s.eng.latest).resLow = false
      ∧ s.eng.water.state ≠ .empty ∧ (s.eng.str 2).sel = .atOpen
      ∧ (∀ k, k ≠ 2 → (s.eng.str k).commanded ≠ .equalise)
      ∧ 54500 ≤ 54000 + fieldNat s.profile fldMatchBand ∧ ¬ 54501 ≤ 54000 + fieldNat s.profile fldMatchBand
      ∧ (sampling ramp .atEq false).attending ∧ (sampling ramp .atEq false).drives 1 ramp 2
      ∧ cellsFitted profile4 2 * ramp.perCell - cellsFitted profile4 2 * 20 = 57120
      ∧ (sampling hold .atEq false).attending ∧ (sampling hold .atEq false).drives 1 hold 2
      ∧ (sampling back .atEq true).attending ∧ (sampling back .atEq true).drives 1 back 2
      ∧ ((sampling back .atEq true).eng.str 2).sel = .atEq
      ∧ (latestLines (sampling back .atEq true).eng.latest).chgFault = true := by decide +kernel

theorem test_witness_sample_faults_and_water :
    let home := sampling (roundIn .equalise .returning) .goingLoad false
    let fill := { sampling (roundIn .water .fill) .atLoad false with
      eng := { (sampling (roundIn .water .fill) .atLoad false).eng with
               water := { Water.blank with state := .busy, valve := some 2, pump := true } } }
    home.attending ∧ home.eng.claims.charger = some 1 ∧ home.onlyBusy 1
      ∧ home.eng.ctx 1 = some (roundIn .equalise .returning) ∧ fill.attending ∧ fill.eng.claims.water = some 1
      ∧ fill.eng.ctx 1 = some (roundIn .water .fill) ∧ fill.onlyBusy 1 ∧ fill.eng.water.valve = some 2
      ∧ fill.eng.water.state = .busy ∧ (roundIn .water .fill).coasting = false
      ∧ (roundIn .water .fill).firstCause = none ∧ fill.eng.board.queue = []
      ∧ State.reset.attending ∧ (∀ c, State.reset.eng.ctx c = none) ∧ State.reset.eng.water.valve = none
      ∧ State.reset.eng.claims.water = none ∧ (latestLines State.reset.eng.latest).chgFault = true := by decide +kernel

theorem test_witness_fault_rises :
    let out := roundIn .equalise .isolating
    let later := { roundIn .equalise .connecting with firstCause := some .withdrawn }
    let s := sampling out .goingOpen false
    s.attending ∧ s.onlyBusy 1 ∧ s.drives 1 out 2 ∧ (latestLines s.eng.latest).chgFault = false
      ∧ out.firstCause = none ∧ later.firstCause ≠ none ∧ (sampling later .goingEq false).drives 1 later 2 := by
  decide +kernel

theorem test_witness_fault_rises_to_rest :
    let pre := roundIn .equalise .precharge
    let hold := roundIn .equalise .hold
    let back := roundIn .equalise .matching
    let check := roundIn .equalise .check
    let join := roundIn .giveBack .connecting
    (sampling pre .atOpen false).drives 1 pre 2 ∧ (sampling hold .atEq false).drives 1 hold 2
      ∧ (sampling back .atEq false).drives 1 back 2 ∧ (sampling check .atLoad false).drives 1 check 2
      ∧ (sampling join .goingEq false).drives 1 join 2 ∧ check.leftLoad = false ∧ check.inWatering = false
      ∧ pre.firstCause = none ∧ hold.firstCause = none ∧ check.firstCause = none := by
  decide +kernel

theorem test_witness_fault_strands :
    let given := roundIn .giveBack .precharge
    let s := sampling given .atOpen true
    let s := { s with eng := s.eng.modSlot 3 (bodyOf 4 8 0) }
    s.attending ∧ s.onlyBusy 1 ∧ s.drives 1 given 2 ∧ s.eng.board.queue = [] ∧ s.eng.qualifierOwed = none
      ∧ orderCode (s.eng.slot 3) = 4 ∧ (s.eng.str 2).sel = .atOpen ∧ (latestLines s.eng.latest).chgFault = true
      ∧ given.remaining = 0 ∧ given.inWatering = false ∧ given.firstCause = none ∧ s.eng.water.state ≠ .empty := by
  decide +kernel

/-- An EQUALISE body of string 2 with THEN_WATER, and a WATER body of it with its flags. -/
def equaliseBody : Vector Byte 31 :=
  #v[2, 0, 0x04, 0, 0, 0x60, 0x09, 100, 0, 0, 60, 0, 10, 5, 3, 0x02, 0, 0, 0xE8, 0x03,
     0, 0, 0, 0, 0, 0, 0, 0, 0, 0, 0]

/-- A part that may start the order of slot 3: its strings' censuses ESTABLISHED, its supply RICH, its line WAKING. -/
def mayStart (body : Vector Byte 31) (stranded : Bool) : State :=
  let x := { StringRec.blank with census := .established, censusSet := 7, stranded := stranded }
  let e := State.reset.eng.modSlot 3 fun y => { y with body := body }
  { State.reset with
    profile := putProfileByte profile4 0x3F 0x01,
    eng := { e with
      strings := Vector.replicate 8 x, line := { e.line with state := .waking },
      supply := { e.supply with state := .rich },
      latest := some (sampleOf 0 ⟨54000, 0, 54000, false, false, false, true, false⟩) } }

/-- A part whose slot 3 is QUEUED, the one order that waits, and whose latest sample shows CHG_FAULT set. -/
def waitsForFault (body : Vector Byte 31) (stranded : Bool) : State :=
  let s := mayStart body stranded
  let e := (s.eng.modSlot 3 fun y => { y with mark := .queued }).modBoard fun b => { b with queue := [3] }
  { s with eng := { e with latest := some (sampleOf 0 ⟨54000, 0, 54000, true, false, false, true, false⟩) } }

theorem test_witness_sample_starts_an_order :
    let s := waitsForFault (equaliseBody.set 15 0x00) false
    let back := waitsForFault (equaliseBody.set 0 4) true
    s.attending ∧ s.eng.qualifierOwed = none ∧ s.eng.board.queue = [3] ∧ (s.eng.slot 3).mark = .queued
      ∧ (∀ c, s.eng.ctx c = none) ∧ s.eng.claims = Claims.blank ∧ s.eng.line.state = .waking
      ∧ (latestLines s.eng.latest).resLow = false ∧ s.eng.water.state ≠ .empty
      ∧ (latestLines s.eng.latest).chgFault = true ∧ (orderMask (s.eng.slot 3)).getLsbD (2 : StringId).val = true
      ∧ (∀ k : StringId, k < 2 → (orderMask (s.eng.slot 3)).getLsbD k.val = false)
      ∧ (∀ k, (s.eng.str k).census = .established ∧ (s.eng.str k).sel ≠ .faulted ∧ (s.eng.str k).stranded = false)
      ∧ orderCode (s.eng.slot 3) = 2 ∧ thenWater (s.eng.slot 3) = false ∧ s.eng.supply.state = .rich
      ∧ orderCode (back.eng.slot 3) = 4 ∧ (∀ k, (back.eng.str k).stranded = true) := by decide +kernel

theorem test_sample_clamps :
    sampleOf 1 ⟨80000, -5, 54000, false, false, false, true, false⟩
      = { time := 1, eqVolts := 70000, eqAmps := 0, loadVolts := 54000,
          lines := { chgFault := false, resLow := false, resEmpty := false, mainsOk := true, genRun := false } } := by
  decide

theorem test_witness_dispatch :
    let water (flags : Byte) := mayStart ((equaliseBody.set 0 3).set 7 flags) false
    let back := mayStart (equaliseBody.set 0 4) true
    let s := mayStart equaliseBody false
    s.linkUp ∧ s.calm ∧ (s.eng.slot 3).mark = .free ∧ s.eng.refusal s.profile (s.eng.slot 3) = none ∧ s.unburdened
      ∧ s.eng.board.favoured = none ∧ s.eng.claims = Claims.blank ∧ s.eng.line.state = .waking
      ∧ (orderMask (s.eng.slot 3)).getLsbD (2 : StringId).val = true
      ∧ (∀ k : StringId, k < 2 → (orderMask (s.eng.slot 3)).getLsbD k.val = false)
      ∧ orderCode (s.eng.slot 3) = 2 ∧ (∀ k, (s.eng.str k).stranded = false)
      ∧ (latestLines s.eng.latest).chgFault = false ∧ s.eng.supply.state = .rich ∧ thenWater (s.eng.slot 3) = true
      ∧ s.eng.water.state = .ready ∧ back.eng.refusal back.profile (back.eng.slot 3) = none
      ∧ orderCode (back.eng.slot 3) = 4 ∧ (water 0).eng.refusal (water 0).profile ((water 0).eng.slot 3) = none
      ∧ orderCode ((water 0).eng.slot 3) = 3 ∧ onlyIfLow ((water 1).eng.slot 3) = true
      ∧ onlyIfLow ((water 0).eng.slot 3) = false ∧ (s.eng.str 2).sel = .atLoad ∧ (s.eng.str 2).restUntil = 0
      ∧ s.eng.water.valve = none ∧ s.eng.water.coast = none := by decide +kernel

theorem test_witness_favour :
    let e := (mayStart equaliseBody false).eng
    let x := { e.slot 3 with mark := .queued }
    let held := ((e.putSlot 3 x).putSlot 5 x).modBoard fun b => { b with queue := [3, 5], favoured := some 3 }
    let other := held.putSlot 5 { x with body := (equaliseBody.set 0 1).set 2 0x08 }
    held.board.queue.Nodup ∧ held.board.favoured = some 3 ∧ (3 : SlotId) ≠ 5
      ∧ 3 ∈ held.board.queue.takeWhile (fun m => m != 5) ∧ within 1 4 (orderCode (held.slot 3)) = true
      ∧ within 1 4 (orderCode (held.slot 5)) = true ∧ (other.slot 5).mark = .queued
      ∧ other.needsMet profile4 5 = true ∧ other.freeCtx = some 0 ∧ orderKind (other.slot 5) = some .survey := by
  decide +kernel

theorem test_witness_rest :
    let s := onString fun x => { x with restArmed := true }
    s.attending ∧ (s.eng.str 2).restArmed = true ∧ (s.eng.clock - (s.eng.str 2).restUntil).toNat < 2 ^ 31
      ∧ s.eng.board.queue = [] ∧ (∀ c, s.eng.ctx c = none) ∧ (State.reset.eng.str 2).restArmed = false := by
  decide +kernel

/-- A part whose water path C1 holds, BUSY and closed, with slot 3's flags byte and a round of C1. -/
def waterWaits (r : Round) (flags : Byte) : State :=
  busyWith r fun e =>
    let e := (e.modStr 2 fun x => { x with restArmed := true, restUntil := 50000 }).modSlot 3 (bodyOf 3 8 flags)
    { e with water := { e.water with state := .busy }, line := { e.line with state := .waking } }

theorem test_witness_rest_wait :
    let r := { roundIn .water .restWait with cur := none, remaining := 0x04 }
    let s := waterWaits r 0x01
    s.attending ∧ (s.eng.str 2).restArmed = true ∧ (s.eng.clock - (s.eng.str 2).restUntil).toNat < 2 ^ 31
      ∧ s.eng.board.queue = [] ∧ s.eng.ctx 1 = some r ∧ s.onlyBusy 1 ∧ r.phase = .restWait
      ∧ r.remaining = 1#8 <<< (2 : StringId).val ∧ (s.eng.str 2).restUntil.toNat ≤ s.eng.clock.toNat
      ∧ (s.eng.str 2).sel = .atLoad ∧ onlyIfLow (s.eng.slot 3) = true ∧ s.eng.line.state = .waking
      ∧ onlyIfLow ((waterWaits r 0).eng.slot 3) = false ∧ s.eng.claims.water = some 1 ∧ s.eng.owner 2 = some 1
      ∧ s.eng.water.state = .busy ∧ s.eng.water.valve = none ∧ s.eng.water.coast = none := by
  decide +kernel

theorem test_witness_reserve :
    let e := (busyWith (roundIn .equalise .isolating) id).eng
    e.owner 2 = some 1 ∧ isFitted profile4 2 = true ∧ (e.str 2).sel = .atLoad ∧ fieldNat profile4 fldReserve < 4
      ∧ (allStrings.filter fun k => isFitted profile4 k && (e.str k).sel == .atLoad).length = 4
      ∧ 4 ≤ fieldNat (putProfileByte profile4 1 4) fldReserve ∧ e.owner 2 ≠ some 0 := by decide +kernel

theorem test_witness_feedback :
    ∀ x : SelState × Contact × Option Contact,
      x ∈ [(.atLoad, .load, none), (.atOpen, .opened, none), (.atEq, .equalise, none), (.faulted, .load, none),
           (.goingOpen, .load, some .load), (.goingEq, .opened, some .opened), (.goingLoad, .opened, some .opened)] →
      let s := onString fun y => { y with sel := x.1, observed := x.2.1, origin := x.2.2 }
      s.held = none ∧ s.calm ∧ (∀ c, s.eng.ctx c = none) ∧ (s.eng.str 2).observed ≠ .between
        ∧ (s.eng.str 2).sel = x.1 ∧ (s.eng.str 2).origin = x.2.2 ∧ isFitted profile4 2 = true
        ∧ isFitted State.reset.profile 2 = false ∧ s.eng.settling ≠ none := by decide +kernel

/-- A round of C1 drives string 2, whose transfer is under way. -/
def inTransfer (r : Round) (sel : SelState) (from_ : Contact) : State :=
  busyWith r fun e => e.modStr 2 fun x => { x with sel := sel, observed := .between, origin := some from_, timer := some 500 }

theorem test_witness_holder_of_a_transfer :
    ∀ x : Phase × SelState × Contact,
      x ∈ [(.isolating, .goingOpen, .load), (.connecting, .goingEq, .opened), (.returning, .goingOpen, .equalise),
           (.returning, .goingLoad, .opened)] →
      let r := roundIn .equalise x.1
      let s := inTransfer r x.2.1 x.2.2
      s.held = none ∧ s.calm ∧ s.drives 1 r 2 ∧ (s.eng.str 2).observed ≠ .opened ∧ (s.eng.str 2).timer ≠ none
        ∧ (s.eng.str 2).sel = x.2.1 ∧ (s.eng.str 2).origin = some x.2.2 ∧ r.inWatering = false ∧ r.remaining = 0
        ∧ thenWater (s.eng.slot r.slot) = false ∧ s.eng.board.queue = [] ∧ r.pendingOutcome = none
        ∧ r.stranding = false := by decide +kernel

theorem test_witness_selector_timers :
    let s := onString fun y => { y with sel := .goingOpen, timer := some 500 }
    s.held = none ∧ s.calm ∧ (∀ c, s.eng.ctx c = none) ∧ (s.eng.str 2).timer ≠ none ∧ (s.eng.str 2).sel ≠ .atLoad
      ∧ s.eng.owner 2 = none ∧ (State.reset.eng.str 2).timer = none ∧ State.reset.eng.settling ≠ none
      ∧ State.reset.takePinReset.eng.settling = none := by decide +kernel

theorem test_witness_line :
    let waking := onLine fun l => { l with state := .waking, sending := .wakePattern }
    let settling := onLine fun l => { l with state := .waking, settle := some 500 }
    let active := onLine fun l => { l with state := .active, idle := some 60 }
    let asleep := onLine fun l => { l with state := .active, sending := .sleep (frameLevels sleepFrame) }
    let listed := onLine fun l => { l with state := .active, sending := .sleep (frameLevels sleepFrame),
                                           list := [(sweepOf 0 0).req] }
    waking.attending ∧ waking.eng.line.sending = .wakePattern ∧ settling.attending ∧ settling.eng.line.settle ≠ none
      ∧ settling.eng.line.list = [] ∧ settling.eng.line.sweep = none ∧ settling.eng.line.finishing = false
      ∧ active.attending ∧ active.eng.line.idle ≠ none ∧ asleep.attending
      ∧ asleep.eng.line.sending = .sleep (frameLevels sleepFrame) ∧ asleep.eng.line.list = [] ∧ listed.attending
      ∧ listed.eng.line.list ≠ [] := by decide +kernel

theorem test_witness_call_and_recovery :
    let s := onLine fun l => { l with state := .active, sending := .call [], sweep := some (sweepOf 3 0) }
    let f := onLine fun l => { l with state := .faulted, recovery := some 120 }
    s.attending ∧ s.eng.line.sending = .call [] ∧ s.eng.line.sweep = some (sweepOf 3 0) ∧ f.attending
      ∧ f.eng.line.recovery ≠ none ∧ f.eng.board.queue = [] ∧ State.reset.eng.line.recovery = none := by decide +kernel

/-- The line is ACTIVE with a sweep of string 2 whose window is open. -/
def sweeping (w : Sweep) (silent : Nat) : State :=
  onLine fun l => { l with state := .active, sweep := some w, window := some 20, silent := silent }

theorem test_witness_frames :
    let s := sweeping (sweepOf 0x000007 0x000000) 0
    let late := onLine fun l => { l with state := .asleep, errors := 31 }
    s.attending ∧ receiveFrames (frameLevels (readingFrame reading)) = [readingFrame reading]
      ∧ readingOf (readingFrame reading) = some reading ∧ reading.inRange = true
      ∧ receiveFrames (frameLevels [0x80]) = [[0x80]] ∧ readingOf [0x80] = none ∧ s.eng.line.receives = true
      ∧ s.eng.line.errors + 1 < 32 ∧ late.attending ∧ late.eng.line.errors = 31 ∧ late.eng.line.list = []
      ∧ late.eng.line.sweep = none ∧ State.reset.eng.line.receives = false := by decide +kernel

theorem test_witness_good_reply :
    let w := sweepOf 0x000007 0x000000
    reading.tag = w.tag ∧ (w.expected.get reading.stringId).getLsbD 1 = true
      ∧ (w.replied.get reading.stringId).getLsbD 1 = false ∧ (1 : Position).val = reading.source.toNat % 32
      ∧ w.replied.set reading.stringId (w.replied.get reading.stringId ||| 1#24 <<< (1 : Position).val) ≠ w.expected
      := by decide +kernel

theorem test_witness_window_end :
    let a := sweepOf 0x000007 0x000001
    let b := sweepOf 0x000007 0x000000
    (sweeping a 0).attending ∧ (sweeping a 0).eng.line.window = some 20 ∧ (sweeping a 0).eng.line.sweep = some a
      ∧ a.withdrawn = true ∧ (sweeping a 0).eng.line.list = [] ∧ (sweeping a 0).eng.line.trial = false
      ∧ (sweeping a 0).eng.line.finishing = false ∧ (sweeping a 0).eng.line.sending = .nothing
      ∧ (a.replied.get 2).getLsbD 0 = true ∧ (sweeping b 3).attending ∧ (∀ g, b.replied.get g = 0)
      ∧ b.expected.get 2 ≠ 0 ∧ (sweeping b 3).eng.line.silent = 3 := by decide +kernel

theorem test_witness_precharge :
    let s := busyWith (roundIn .equalise .precharge) fun e => e.modStr 2 fun x => { x with sel := .atOpen }
    let late := { roundIn .equalise .precharge with phaseStart := 49999 }
    s.attending ∧ s.drives 1 (roundIn .equalise .precharge) 2 ∧ (s.eng.str 2).sel = .atOpen
      ∧ (s.eng.clock - (0 + BitVec.ofNat 32 (fieldNat s.profile fldPrecharge))).toNat < 2 ^ 31
      ∧ (busyWith late id).drives 1 late 2
      ∧ 2 ^ 31 ≤ (s.eng.clock + 1 - (late.phaseStart + BitVec.ofNat 32 (fieldNat s.profile fldPrecharge))).toNat
      ∧ 2 ^ 31 ≤ (s.eng.clock - (late.phaseStart + BitVec.ofNat 32 (fieldNat s.profile fldPrecharge))).toNat := by
  decide +kernel

theorem test_witness_return_gives_up :
    let r := { roundIn .giveBack .precharge with leftLoad := true }
    let s := busyWith r fun e => (e.modStr 2 fun x => { x with sel := .atOpen }).modSlot 3 (bodyOf 4 3 0x04)
    s.attending ∧ s.drives 1 r 2 ∧ r.kind = .giveBack ∧ orderCode (s.eng.slot r.slot) = 4 ∧ r.remaining = 0
      ∧ (s.eng.str 2).sel = .atOpen ∧ r.inWatering = false ∧ r.leftLoad = true ∧ s.eng.board.queue = []
      ∧ (s.eng.clock - (r.phaseStart + BitVec.ofNat 32 (fieldNat s.profile fldPrecharge))).toNat < 2 ^ 31 := by
  decide +kernel

theorem test_witness_limits :
    let s := busyWith (roundIn .equalise .ramp) id
    let h := busyWith (roundIn .equalise .hold) fun e => e.modSlot 3 (bodyOf 2 11 30)
    s.attending ∧ s.drives 1 (roundIn .equalise .ramp) 2 ∧ h.attending ∧ h.drives 1 (roundIn .equalise .hold) 2
      ∧ (s.eng.clock - (0 + BitVec.ofNat 32 (60 * fieldNat s.profile fldRamp))).toNat < 2 ^ 31
      ∧ (h.eng.clock - (0 + BitVec.ofNat 32 (60 * maxHold (h.eng.slot 3)))).toNat < 2 ^ 31
      ∧ 60 * maxHold (h.eng.slot 3) ≤ min 43200 (h.eng.clock - 0).toNat := by decide +kernel

theorem test_witness_hold_interval :
    let h := busyWith (roundIn .equalise .hold) fun e => e.modLine fun l => { l with state := .waking }
    let q := busyWith (roundIn .equalise .hold) fun e => e.modLine fun l => { l with list := [(sweepOf 0 0).req] }
    h.attending ∧ h.drives 1 (roundIn .equalise .hold) 2 ∧ h.eng.hasRequest 1 = false ∧ h.eng.line.state = .waking
      ∧ (h.eng.clock - (0 + BitVec.ofNat 32 (fieldNat h.profile fldHoldInterval))).toNat < 2 ^ 31
      ∧ q.attending ∧ q.drives 1 (roundIn .equalise .hold) 2 ∧ q.eng.hasRequest 1 = true := by decide +kernel

theorem test_witness_match :
    let s := busyWith (roundIn .equalise .matching) fun e => e.modStr 2 fun x => { x with sel := .atEq }
    s.attending ∧ s.drives 1 (roundIn .equalise .matching) 2 ∧ (s.eng.str 2).sel = .atEq
      ∧ (s.eng.clock - (0 + BitVec.ofNat 32 (60 * fieldNat s.profile fldMatchTimeout))).toNat < 2 ^ 31 := by
  decide +kernel

theorem test_witness_charger_port :
    (busyWith (roundIn .equalise .hold) id).eng.claims.charger = some 1
      ∧ State.reset.eng.claims.charger ≠ some 1 := by decide

/-- A watering round in a phase with string 2's valve open. -/
def filling (r : Round) (cap : Byte) : State :=
  busyWith r fun e =>
    ({ e with water := { e.water with state := .busy, valve := some 2, pump := true } } : Engine).modSlot 3
      (bodyOf 3 6 cap)

theorem test_witness_flow :
    let p := filling (roundIn .water .prime) 200
    let f := filling (roundIn .water .fill) 200
    let full := filling { roundIn .water .fill with waterVolume := 195 } 200
    let coast := busyWith (roundIn .water .fill) fun e => { e with water := { e.water with coast := some (2, 50008) } }
    let broken := onEngine fun e => { e with water := { e.water with state := .faulted } }
    let leaky := onEngine fun e => { e with water := { e.water with idle := 2 } }
    p.calm ∧ p.eng.claims.water = some 1 ∧ p.eng.ctx 1 = some (roundIn .water .prime) ∧ p.eng.water.valve = some 2
      ∧ f.calm ∧ f.eng.ctx 1 = some (roundIn .water .fill)
      ∧ min 65535 (0 + fieldNat f.profile fldPulse) < volumeCap (f.eng.slot 3)
      ∧ full.eng.ctx 1 = some { roundIn .water .fill with waterVolume := 195 }
      ∧ volumeCap (full.eng.slot 3) ≤ min 65535 (195 + fieldNat full.profile fldPulse)
      ∧ coast.calm ∧ coast.eng.water.valve = none ∧ coast.eng.water.coast ≠ none
      ∧ broken.calm ∧ broken.eng.water.state = .faulted ∧ State.reset.eng.water.idle + 1 < 3
      ∧ leaky.calm ∧ leaky.eng.water.idle = 2 ∧ leaky.eng.claims.water = none ∧ leaky.eng.board.queue = [] := by
  decide +kernel

theorem test_witness_dry :
    let p := filling (roundIn .water .prime) 200
    let x := sampleOf 1 ⟨0, 0, 0, false, false, true, false, false⟩
    let q : State := { p with eng := { p.eng with latest := some x } }
    p.attending ∧ p.eng.ctx 1 = some (roundIn .water .prime) ∧ (roundIn .water .prime).coasting = false
      ∧ (roundIn .water .prime).firstCause = none ∧ p.eng.water.valve = some 2 ∧ p.eng.claims.water = some 1
      ∧ p.eng.board.queue = [] ∧ (latestLines p.eng.latest).resEmpty = false
      ∧ (p.eng.clock - (0 + BitVec.ofNat 32 (fieldNat p.profile fldDry))).toNat < 2 ^ 31
      ∧ q.attending ∧ (latestLines q.eng.latest).resEmpty = true := by decide +kernel

theorem test_witness_fill_ends :
    let f := filling (roundIn .water .fill) 200
    let c := { roundIn .water .fill with coasting := true }
    f.attending ∧ f.eng.ctx 1 = some (roundIn .water .fill) ∧ (roundIn .water .fill).coasting = false
      ∧ f.eng.water.valve = some 2 ∧ (busyWith c id).eng.ctx 1 = some c ∧ (busyWith c id).attending
      ∧ (f.eng.clock - (0 + BitVec.ofNat 32 (fieldNat f.profile fldStop))).toNat < 2 ^ 31
      ∧ (f.eng.clock - (0 + BitVec.ofNat 32 (60 * fieldNat f.profile fldFill))).toNat < 2 ^ 31 := by decide +kernel

theorem test_witness_verify :
    let r := roundIn .water .verify
    let e := (busyWith r fun e => (e.modStr 2 fun x => { x with censusSet := 3 }).putCell 2 0
      { Cell.blank with level := .below }).eng
    let w : Request := { ctx := 1, slot := 3, mask := 0x04, purpose := .verify }
    e.ctx w.ctx = some r ∧ r.slot = w.slot ∧ w.purpose = .verify ∧ r.phase = .verify ∧ r.cur = some 2
      ∧ (e.str 2).censusSet.getLsbD (0 : Position).val = true ∧ (e.cell 2 0).level = .below
      ∧ ((AddrSet.empty.set 2 1).get 2).getLsbD (0 : Position).val = true
      ∧ ((AddrSet.empty.set 2 2).get 2).getLsbD (1 : Position).val = true
      ∧ ∀ q, (AddrSet.empty.get 2).getLsbD q = false := by
  refine ⟨by decide +kernel, by decide, by decide, by decide, by decide, by decide +kernel, by decide +kernel,
    by decide +kernel, by decide +kernel, ?_⟩
  intro q
  simp [AddrSet.empty, Vector.get]

theorem test_witness_coast :
    let r := { roundIn .water .fill with coasting := true, pendingOutcome := some .watered }
    let s := busyWith r fun e =>
      ({ e with water := { e.water with coast := some (2, 49990) } } : Engine).modSlot 3 (bodyOf 3 8 0x02)
    let v := busyWith (roundIn .water .verifyWait) fun e => e.modLine fun l => { l with state := .waking }
    s.attending ∧ s.eng.ctx 1 = some r ∧ s.eng.water.coast = some (2, 49990)
      ∧ (s.eng.clock - 49990).toNat < 2 ^ 31 ∧ s.eng.claims.water = some 1 ∧ verifyFlag (s.eng.slot 3) = true
      ∧ r.firstCause = none ∧ State.reset.eng.water.coast = none ∧ v.attending
      ∧ v.eng.ctx 1 = some (roundIn .water .verifyWait) ∧ v.eng.line.state = .waking
      ∧ (v.eng.clock - (0 + BitVec.ofNat 32 (fieldNat v.profile fldVerify))).toNat < 2 ^ 31 := by decide +kernel

end Sys2Proof.Tests
end

section
/-! SUPPORT. A WRITE of one byte to a part that is ACTIVE: what SDO has carried, and what the commit leaves where the
byte is dropped, kept by its owner, taken as a mark request or discarded. -/

namespace Sys2Proof.Machine

/-! ## The transaction -/

/-- Each of the ten WRITE rows is its transaction (log 3). -/
theorem exec_of_sends {i : Instr} {w : WriteBurst} (h : Sends i w) (s : State) : exec i s = .next (s.transact w.raw) := by
  rcases h with rfl | rfl | rfl | rfl | rfl | rfl | rfl | rfl | rfl | rfl <;> rfl

/-- SDO carries the status byte, the two zeros of the address and the echo of the one byte (R168). -/
theorem State.shiftOut_one (s : State) (a : BitVec 16) (v : Byte) :
    s.shiftOut (WriteBurst.raw ⟨a, [v]⟩).bytes = s.echo a := by
  simp [State.shiftOut, State.echo, WriteBurst.raw, State.sdoTail, State.sdoData, State.freeUse, freeBytesUsed,
    List.range_succ]

/-- A WRITE of one byte that does not ask for DORMANT commits that byte. -/
theorem exec_write_one {i : Instr} {s : State} {a : BitVec 16} {v : Byte} (hi : Sends i ⟨a, [v]⟩) (hs : s.linkUp)
    (hd : low13 a = 0x0004 → v ≠ 0x02) : exec i s = .next ((s.echo a).commit ⟨a, [v]⟩) := by
  rw [exec_of_sends hi, State.transact_one s a v hs hd, State.shiftOut_one]

@[simp] theorem State.echo_eng (s : State) (a : BitVec 16) : (s.echo a).eng = s.eng := rfl
@[simp] theorem State.echo_profile (s : State) (a : BitVec 16) : (s.echo a).profile = s.profile := rfl
@[simp] theorem State.echo_alert (s : State) (a : BitVec 16) : (s.echo a).alert = s.alert := rfl
@[simp] theorem State.echo_held (s : State) (a : BitVec 16) : (s.echo a).held = s.held := rfl
@[simp] theorem State.ended_eng (s : State) (b : Bool) : (s.ended b).eng = s.eng := rfl
@[simp] theorem State.ended_profile (s : State) (b : Bool) : (s.ended b).profile = s.profile := rfl
@[simp] theorem State.ended_alert (s : State) (b : Bool) : (s.ended b).alert = s.alert := rfl

/-! ## The commit of one byte -/

/-- A byte that is no slot's mark is applied in pass 1, and nothing else is. -/
theorem State.commit_one_plain (s : State) (a : BitVec 16) (v : Byte) (h : isMarkAddr (low13 a) = false) :
    s.commit ⟨a, [v]⟩ = (((Commit.start s).apply (low13 a, v)).endHoldoff.endDormant).finish := by
  simp [State.commit, Commit.passes, passOne, passTwo, h]

/-- A slot's mark byte is a request of pass 2, and nothing else is applied. -/
theorem State.commit_one_mark (s : State) (a : BitVec 16) (v : Byte) (h : isMarkAddr (low13 a) = true) :
    s.commit ⟨a, [v]⟩ = (((Commit.start s).mark (low13 a, v)).endHoldoff.endDormant).finish := by
  simp [State.commit, Commit.passes, passOne, passTwo, h]

/-- The one byte is dropped: BLOCKED (R173). -/
theorem State.commit_one_dropped (s : State) (a : BitVec 16) (v : Byte) (h : isMarkAddr (low13 a) = false)
    (hx : (Commit.start s).apply (low13 a, v) = (Commit.start s).drop) : s.commit ⟨a, [v]⟩ = s.erred 2 := by
  rw [State.commit_one_plain s a v h, hx]
  rfl

/-- The one byte is kept by its owner, whose change of the state is all that happens. -/
theorem State.commit_one_kept (s : State) (a : BitVec 16) (v : Byte) (f : State → State)
    (h : isMarkAddr (low13 a) = false) (hx : (Commit.start s).apply (low13 a, v) = (Commit.start s).onState f) :
    s.commit ⟨a, [v]⟩ = (f s).ended false := by
  rw [State.commit_one_plain s a v h, hx]
  rfl

/-! ## Addresses of the order board -/

/-- An address of a slot, by its slot and offset. -/
theorem slot_address {a : Nat} {n : SlotId} {k : Nat} (hk : k < 64) (h : a = 0x0100 + 64 * n.val + k) :
    inSlots a = true ∧ slotOf a = n ∧ slotOffset a = k := by
  have hn := n.isLt
  refine ⟨?_, Fin.ext ?_, ?_⟩
  · simp only [inSlots, Bool.and_eq_true, decide_eq_true_eq]; omega
  · simp only [slotOf]; omega
  · simp only [slotOffset]; omega

/-- The address of a slot's mark. -/
theorem mark_address {a : Nat} {n : SlotId} (h : a = 0x0100 + 64 * n.val) : isMarkAddr a = true ∧ slotOf a = n := by
  obtain ⟨hin, hslot, hoff⟩ := slot_address (k := 0) (by decide) h
  exact ⟨by simp [isMarkAddr, hin, hoff], hslot⟩

/-! ## Mark requests -/

/-- A mark request that the slot's mark calls for, with all that follows from it. -/
theorem exec_mark_taken {i : Instr} {s : State} {a : BitVec 16} {v : Byte} {n : SlotId} {e : Engine}
    (hi : Sends i ⟨a, [v]⟩) (hs : s.linkUp) (ha : low13 a = 0x0100 + 64 * n.val)
    (he : s.eng.markRequest s.profile n v = some e) :
    exec i s = .next (((s.echo a).ended false).act fun _ => e) := by
  obtain ⟨hmark, hslot⟩ := mark_address ha
  rw [exec_write_one hi hs (by omega), State.commit_one_mark _ _ _ hmark]
  simp only [Commit.mark, Commit.start, hslot, State.echo_eng, State.echo_profile, he]
  rfl

/-- A mark request that the slot's mark does not call for is discarded: MARK (R174). -/
theorem exec_mark_discarded {i : Instr} {s : State} {a : BitVec 16} {v : Byte} {n : SlotId}
    (hi : Sends i ⟨a, [v]⟩) (hs : s.linkUp) (ha : low13 a = 0x0100 + 64 * n.val)
    (he : s.eng.markRequest s.profile n v = none) : exec i s = .next ((s.echo a).erred 3) := by
  obtain ⟨hmark, hslot⟩ := mark_address ha
  rw [exec_write_one hi hs (by omega), State.commit_one_mark _ _ _ hmark]
  simp only [Commit.mark, Commit.start, hslot, State.echo_eng, State.echo_profile, he]
  rfl

/-- The rows a mark request is sent in. -/
theorem sends_post (w : WriteBurst) : Sends (.post w) w := by simp [Sends]
theorem sends_release (w : WriteBurst) : Sends (.release w) w := by simp [Sends]
theorem sends_withdraw (w : WriteBurst) : Sends (.withdraw w) w := by simp [Sends]
theorem sends_registerWrite (w : WriteBurst) : Sends (.registerWrite w) w := by simp [Sends]
theorem sends_bodyWrite (w : WriteBurst) : Sends (.bodyWrite w) w := by simp [Sends]
theorem sends_standDown (w : WriteBurst) : Sends (.standDown w) w := by simp [Sends]

end Sys2Proof.Machine
end

section
/-! SUPPORT. What a mark request is by the slot's mark, and the statements that need no work between the blocks. -/

namespace Sys2Proof.Machine

/-! ## Mark requests by the slot's mark (R2) -/

theorem Engine.markRequest_post {e : Engine} {n : SlotId} (p : Profile) (h : (e.slot n).mark = .free) :
    e.markRequest p n 0x01 = some (e.post p n) := by
  simp [Engine.markRequest, h]

theorem Engine.markRequest_release {e : Engine} {n : SlotId} (p : Profile)
    (h : (e.slot n).mark = .settled ∨ (e.slot n).mark = .refused) : e.markRequest p n 0x00 = some (e.release n) := by
  rcases h with h | h <;> simp [Engine.markRequest, h]

theorem Engine.markRequest_withdraw_queued {e : Engine} {n : SlotId} (p : Profile) (h : (e.slot n).mark = .queued) :
    e.markRequest p n 0x06 = some ((e.settleQueued n .withdrawn .withdrawn).hand [.scan]) := by
  simp [Engine.markRequest, h]

theorem Engine.markRequest_withdraw_running {e : Engine} {n : SlotId} (p : Profile) (h : (e.slot n).mark = .running) :
    e.markRequest p n 0x06 = some (e.withdrawRunning n) := by
  simp [Engine.markRequest, h]

theorem Engine.markRequest_withdraw_settled {e : Engine} {n : SlotId} (p : Profile) (h : (e.slot n).mark = .settled) :
    e.markRequest p n 0x06 = some (e.lateWithdraw n) := by
  simp [Engine.markRequest, h]

/-- The slot's mark calls for the mark request (R2). -/
def Mark.callsFor (m : Mark) (v : Byte) : Prop :=
  (v = 0x01 ∧ m = .free) ∨ (v = 0x00 ∧ (m = .settled ∨ m = .refused))
    ∨ (v = 0x06 ∧ (m = .queued ∨ m = .running ∨ m = .settled))

/-- A request that the mark does not call for is taken by none of the rows of R2. -/
theorem Engine.markRequest_none {e : Engine} {p : Profile} {n : SlotId} {v : Byte}
    (h : ¬ (e.slot n).mark.callsFor v) : e.markRequest p n v = none := by
  have to_byte (k : Nat) (hk : v.toNat = k) : v = BitVec.ofNat 8 k := by rw [← hk]; simp
  unfold Engine.markRequest
  split
  case h_7 => rfl
  all_goals
    rename_i hv hm
    have := to_byte _ hv
    exact absurd (by simp [Mark.callsFor, hm, this]) h

/-- Settles O32: no row of R2 takes the request, and the commit of a request that is not taken is a MARK error. -/
theorem markErrors : Obligations.MarkErrors := by
  unfold Obligations.MarkErrors
  intro s a n hs ha m
  have discarded (i : Instr) (v : Byte) (hi : Sends i ⟨a, [v]⟩) (h : ¬ m.callsFor v) :
      exec i s = .next ((s.echo a).erred 3) :=
    exec_mark_discarded hi hs ha (Engine.markRequest_none h)
  refine ⟨fun hf => discarded _ _ (sends_post _) ?_, fun h1 h2 => discarded _ _ (sends_release _) ?_,
    fun h => discarded _ _ (sends_withdraw _) ?_, fun v i hi h => discarded i v hi ?_⟩
  · simp [Mark.callsFor, hf]
  · simp [Mark.callsFor, h1, h2]
  · rcases h with h | h <;> simp [Mark.callsFor, h]
  · rcases h with ⟨rfl, h⟩ | ⟨rfl, h1, h2⟩ | ⟨rfl, h | h⟩ | ⟨h0, h1, h6⟩
    · simp [Mark.callsFor, h]
    · simp [Mark.callsFor, h1, h2]
    · simp [Mark.callsFor, h]
    · simp [Mark.callsFor, h]
    · rintro (⟨hv, -⟩ | ⟨hv, -⟩ | ⟨hv, -⟩)
      exacts [h1 hv, h0 hv, h6 hv]

end Sys2Proof.Machine
end

section
/-! SUPPORT. Bytes of pass 1: those that no owner keeps, and those of an order body. -/

namespace Sys2Proof.Machine

/-! ## Bytes that no owner keeps (R173) -/

/-- Every address below the slots that has an owner which keeps some value: the writable port words and the profile. -/
def hasPortOwner (a : Nat) : Prop :=
  (0x0003 ≤ a ∧ a ≤ 0x0006) ∨ (0x0012 ≤ a ∧ a ≤ 0x0015) ∨ (0x0040 ≤ a ∧ a ≤ 0x007F)

/-- A byte that no port word and no profile byte takes is the order board's, or is dropped. -/
theorem Commit.apply_beyond_ports (m : Commit) {a : Nat} (v : Byte) (hp : ¬ hasPortOwner a) :
    m.apply (a, v) = if isBodyAddr a then m.body (slotOf a) (slotOffset a) v else m.drop := by
  unfold hasPortOwner at hp
  have hs : isStatusAddr a = false := by
    simp only [isStatusAddr, Bool.or_eq_false_iff, beq_eq_false_iff_ne]; omega
  have hf : isProfileAddr a = false := by
    simp only [isProfileAddr, Bool.and_eq_false_iff, decide_eq_false_iff_not]; omega
  have h3 : a ≠ 0x0003 := by omega
  have h4 : a ≠ 0x0004 := by omega
  have h5 : a ≠ 0x0005 := by omega
  have h6 : a ≠ 0x0006 := by omega
  have he : ¬ (a = 0x0014 ∨ a = 0x0015) := by omega
  simp only [Commit.apply, h3, h4, h5, h6, hs, he, hf, if_false, Bool.false_eq_true]

/-- A value of the control word that names no command is dropped (R175). -/
theorem Commit.apply_control_unknown (m : Commit) {v : Byte} (h1 : v ≠ 0x01) (h2 : v ≠ 0x02) (h3 : v ≠ 0x03) :
    m.apply (0x0004, v) = m.drop := by
  simp only [Commit.apply, Commit.control, if_neg h1, if_neg h2, if_neg h3]
  rfl

/-- A byte of a result section lies in no body and is no mark. -/
theorem result_address {a : Nat} (hlow : 0x0100 ≤ a) (h : 32 ≤ a % 64) : isMarkAddr a = false ∧ isBodyAddr a = false := by
  have hoff : 32 ≤ slotOffset a := by simp only [slotOffset]; omega
  constructor
  · simp [isMarkAddr, show slotOffset a ≠ 0 by omega]
  · simp [isBodyAddr, show ¬ slotOffset a ≤ 31 by omega]

/-- An address outside the slots lies in no body and is no mark. -/
theorem outside_slots {a : Nat} (h : a < 0x0100 ∨ 0x0500 ≤ a) : isMarkAddr a = false ∧ isBodyAddr a = false := by
  have hs : inSlots a = false := by simp only [inSlots, Bool.and_eq_false_iff, decide_eq_false_iff_not]; omega
  simp [isMarkAddr, isBodyAddr, hs]

/-- A WRITE of one byte that is dropped leaves BLOCKED, whichever row brings it. -/
theorem exec_byte_dropped {i : Instr} {s : State} {a : BitVec 16} {v : Byte} (hi : Sends i ⟨a, [v]⟩) (hs : s.linkUp)
    (hd : low13 a = 0x0004 → v ≠ 0x02) (hm : isMarkAddr (low13 a) = false)
    (hx : (Commit.start (s.echo a)).apply (low13 a, v) = (Commit.start (s.echo a)).drop) :
    exec i s = .next ((s.echo a).erred 2) := by
  rw [exec_write_one hi hs hd, State.commit_one_dropped _ _ _ hm hx]

/-- A WRITE of one byte at an address without an owner. -/
theorem exec_unowned {i : Instr} {s : State} {a : BitVec 16} {v : Byte} (hi : Sends i ⟨a, [v]⟩) (hs : s.linkUp)
    (hp : ¬ hasPortOwner (low13 a)) (hn : isMarkAddr (low13 a) = false ∧ isBodyAddr (low13 a) = false) :
    exec i s = .next ((s.echo a).erred 2) := by
  refine exec_byte_dropped hi hs (fun h => absurd h ?_) hn.1 ?_
  · unfold hasPortOwner at hp
    omega
  · rw [Commit.apply_beyond_ports _ _ hp, hn.2, if_neg Bool.false_ne_true]

/-- Settles O9: each of the families has no owner, or names no command, and its byte is dropped. -/
theorem unkeptBytesAreBlocked : Obligations.UnkeptBytesAreBlocked := by
  unfold Obligations.UnkeptBytesAreBlocked
  intro s a v hs h
  have hi := sends_registerWrite ⟨a, [v]⟩
  rcases h with h | h | h | h | h | ⟨hlow, hhigh, h⟩ | ⟨ha, h1, h2, h3⟩
  case inr.inr.inr.inr.inr.inl =>
    exact exec_unowned hi hs (by unfold hasPortOwner; omega) (result_address hlow h)
  case inr.inr.inr.inr.inr.inr =>
    refine exec_byte_dropped hi hs (fun _ => h2) (outside_slots (by omega)).1 ?_
    rw [ha]
    exact Commit.apply_control_unknown _ h1 h2 h3
  all_goals exact exec_unowned hi hs (by unfold hasPortOwner; omega) (outside_slots (by omega))

/-! ## Bytes of an order body (R3) -/

/-- A body byte is kept while its slot is FREE, and dropped otherwise. -/
theorem Commit.apply_body (m : Commit) {a : Nat} {n : SlotId} {k : Nat} (hk : k < 31) (v : Byte)
    (ha : a = 0x0100 + 64 * n.val + (1 + k)) :
    m.apply (a, v) = if (m.st.eng.slot n).mark = .free then
        m.onState fun s => { s with eng := s.eng.modSlot n fun x => { x with body := x.body.set k v hk } }
      else m.drop := by
  obtain ⟨hin, hslot, hoff⟩ := slot_address (by omega) ha
  have hb : isBodyAddr a = true := by simp [isBodyAddr, hin, hoff]; omega
  rw [Commit.apply_beyond_ports _ _ (by unfold hasPortOwner; omega), if_pos hb, hslot, hoff]
  simp [Commit.body, hk]

/-- Settles O10: the byte is one of the slot's body, and the slot's mark decides. -/
theorem bodyBytesNeedAFreeSlot : Obligations.BodyBytesNeedAFreeSlot := by
  unfold Obligations.BodyBytesNeedAFreeSlot
  intro s a v n k hk hs ha
  have hi := sends_bodyWrite ⟨a, [v]⟩
  have hm : isMarkAddr (low13 a) = false := by
    obtain ⟨-, -, hoff⟩ := slot_address (k := 1 + k) (by omega) (ha.trans (Nat.add_assoc _ _ _))
    simp [isMarkAddr, hoff]
  have happly := Commit.apply_body (Commit.start (s.echo a)) hk v (ha.trans (Nat.add_assoc _ _ _))
  by_cases hfree : (s.eng.slot n).mark = .free
  · have hkept := happly.trans (if_pos hfree)
    rw [if_pos hfree, exec_write_one hi hs (by omega), State.commit_one_kept _ _ _ _ hm hkept]
    rfl
  · rw [if_neg hfree, exec_byte_dropped hi hs (by omega) hm (happly.trans (if_neg hfree))]

end Sys2Proof.Machine
end

section
/-! SUPPORT. The two resets and the values they leave; every command is total and leaves the queue alone. -/

namespace Sys2Proof.Machine

/-! ## Every command completes (log 2, log 8) -/

@[simp] theorem State.absorb_pending (s : State) : s.absorb.pending = s.pending := rfl

theorem State.whenFree_pending (s : State) (f : Engine → Engine) : (s.whenFree f).pending = s.pending := by
  unfold State.whenFree; split <;> rfl

theorem State.whenAwake_pending (s : State) (f : Engine → Engine) : (s.whenAwake f).pending = s.pending := by
  unfold State.whenAwake; split <;> rfl

theorem State.wake_pending (s : State) (src : WakeSource) : (s.wake src).pending = s.pending := by
  unfold State.wake; split <;> rfl

theorem State.settleQualifier_pending (s : State) : s.settleQualifier.pending = s.pending := by
  unfold State.settleQualifier; split <;> rfl

theorem State.settleFor_pending (s : State) (t : RawTransaction) : (s.settleFor t).pending = s.pending := by
  unfold State.settleFor
  split
  · split
    · exact s.settleQualifier_pending
    · rfl
  · rfl

theorem State.takeStandDown_pending (s : State) : s.takeStandDown.pending = s.pending := by
  unfold State.takeStandDown; split <;> rfl

theorem State.takeConfirm_pending (s : State) : s.takeConfirm.pending = s.pending := by
  unfold State.takeConfirm; split <;> rfl

theorem State.writeProfile_pending (s : State) (k : Nat) (v : Byte) : (s.writeProfile k v).pending = s.pending := by
  unfold State.writeProfile; split <;> rfl

theorem Commit.drop_pending (m : Commit) : m.drop.st.pending = m.st.pending := by
  unfold Commit.drop; split <;> rfl

theorem Commit.control_pending (m : Commit) (v : Byte) : (m.control v).st.pending = m.st.pending := by
  unfold Commit.control Commit.takeDormant
  split
  · exact m.st.takeStandDown_pending
  · split
    · split <;> rfl
    · split
      · exact m.st.takeConfirm_pending
      · exact m.drop_pending

theorem Commit.clearStatus_pending (m : Commit) (high : Bool) (v : Byte) :
    (m.clearStatus high v).st.pending = m.st.pending := by
  unfold Commit.clearStatus; dsimp only; split <;> rfl

theorem Commit.body_pending (m : Commit) (n : SlotId) (off : Nat) (v : Byte) :
    (m.body n off v).st.pending = m.st.pending := by
  unfold Commit.body
  split
  · rfl
  · exact m.drop_pending

theorem Commit.apply_pending (m : Commit) (x : Nat × Byte) : (m.apply x).st.pending = m.st.pending := by
  unfold Commit.apply
  dsimp only
  split
  · split
    · rfl
    · exact m.drop_pending
  · split
    · exact m.control_pending _
    · split
      · split
        · rfl
        · exact m.drop_pending
      · split
        · rfl
        · split
          · exact m.clearStatus_pending _ _
          · split
            · rfl
            · split
              · split
                · exact m.st.writeProfile_pending _ _
                · exact m.drop_pending
              · split
                · exact m.body_pending _ _ _
                · exact m.drop_pending

theorem Commit.mark_pending (m : Commit) (x : Nat × Byte) : (m.mark x).st.pending = m.st.pending := by
  unfold Commit.mark; split <;> rfl

/-- What every byte of a pass leaves, the pass leaves. -/
theorem Commit.foldl_pending (f : Commit → Nat × Byte → Commit) (hf : ∀ m x, (f m x).st.pending = m.st.pending)
    (bs : List (Nat × Byte)) (m : Commit) : (bs.foldl f m).st.pending = m.st.pending := by
  induction bs generalizing m with
  | nil => rfl
  | cons x bs ih => exact (ih _).trans (hf m x)

theorem Commit.endHoldoff_pending (m : Commit) : m.endHoldoff.st.pending = m.st.pending := by
  unfold Commit.endHoldoff; split <;> rfl

theorem Commit.endDormant_pending (m : Commit) : m.endDormant.st.pending = m.st.pending := by
  unfold Commit.endDormant
  split
  · split <;> rfl
  · rfl

theorem State.commit_pending (s : State) (w : WriteBurst) : (s.commit w).pending = s.pending :=
  calc (s.commit w).pending
    _ = ((Commit.start s).passes (appliedBytes s.link.portMode w)).endHoldoff.st.pending := Commit.endDormant_pending _
    _ = ((Commit.start s).passes (appliedBytes s.link.portMode w)).st.pending := Commit.endHoldoff_pending _
    _ = ((passOne (appliedBytes s.link.portMode w)).foldl Commit.apply (Commit.start s)).st.pending :=
      Commit.foldl_pending _ Commit.mark_pending _ _
    _ = s.pending := Commit.foldl_pending _ Commit.apply_pending _ _

theorem State.serve_pending (s : State) (t : RawTransaction) : (s.serve t).pending = s.pending := by
  unfold State.serve
  split
  · rfl
  · rfl
  · exact State.commit_pending _ _
  · rfl

/-- A transaction leaves the queue of commands as it was. -/
theorem State.transact_pending (s : State) (t : RawTransaction) : (s.transact t).pending = s.pending := by
  unfold State.transact
  split
  · rfl
  · rw [State.serve_pending, State.settleFor_pending, State.wake_pending]

/-- A choice between two states with the same queue. -/
theorem pending_ite {c : Prop} [Decidable c] {s t u : State} (ht : t.pending = s.pending) (hu : u.pending = s.pending) :
    (if c then t else u).pending = s.pending := by
  split <;> assumption

/-- Settles O2, command by command: each is a transaction, work of the blocks where the part attends, or a change that
does not name the queue. -/
theorem everyCommandCompletes : Obligations.EveryCommandCompletes := by
  unfold Obligations.EveryCommandCompletes
  intro i s
  cases i with
  | read | framingError | registerWrite | bodyWrite | profileWrite | eventStatusClear | standDown | goDormant
  | confirmProfile | post | release | withdraw => exact ⟨_, rfl, State.transact_pending _ _⟩
  | restEnded | feedbackChange | transferTimeout | settlingReading | flowPulse => exact ⟨_, rfl, State.whenFree_pending _ _⟩
  | sample => exact ⟨_, rfl, pending_ite s.settleQualifier_pending rfl⟩
  | supplyLineQualified => exact ⟨_, rfl, pending_ite s.settleQualifier_pending rfl⟩
  | holdoffExpiry | partClockAdvance | csRiseAfterReset => exact ⟨_, rfl, pending_ite rfl rfl⟩
  | wakeTimerExpiry | supplyWake => exact ⟨_, rfl, pending_ite (s.wake_pending _) rfl⟩
  | powerOnReset edge =>
    cases edge with
    | taken => exact ⟨_, rfl, rfl⟩
    | left => exact ⟨_, rfl, pending_ite rfl rfl⟩
  | pinReset edge => cases edge <;> exact ⟨_, rfl, pending_ite rfl rfl⟩
  | _ => exact ⟨_, rfl, State.whenAwake_pending _ _⟩

/-! ## The resets (R195) -/

/-- Reading a record that an update has changed for every string. -/
theorem get_map {α β : Type} {n : Nat} (v : Vector α n) (f : α → β) (i : Fin n) : (v.map f).get i = f (v.get i) := by
  show (v.map f)[i.val] = f v[i.val]
  simp

theorem get_ofFn {α : Type} {n : Nat} (f : Fin n → α) (i : Fin n) : (Vector.ofFn f).get i = f i := by
  show (Vector.ofFn f)[i.val] = f i
  simp

theorem get_replicate {α : Type} {n : Nat} (x : α) (i : Fin n) : (Vector.replicate n x).get i = x := by
  show (Vector.replicate n x)[i.val] = x
  simp

/-- The power-on profile's transfer time, and that it is not confirmed (section 11.3). -/
theorem powerOn_profile_read : fieldNat Profile.powerOn fldTransfer = 500 ∧ isConfirmed Profile.powerOn = false := by
  decide +kernel

/-- The alert unit of a power-on reset, taken and left: POWER_ON alone, whatever the enables (R182, R195). -/
theorem Alert.powerOn_left (k : Byte) :
    (Alert.reset { Alert.powerOn with resetCause := k }).leave .powerOn = Alert.powerOn := by
  simp [Alert.leave, Alert.capture, Alert.captures, Alert.refresh, Alert.reset, Alert.powerOn, Event.mask, Event.bit]

/-- Settles O20: what is taken, then what is left, block by block. -/
theorem powerOnResetGivesTheResetState : Obligations.PowerOnResetGivesTheResetState := by
  unfold Obligations.PowerOnResetGivesTheResetState
  intro s low contacts
  refine ⟨s.takePowerOn, s.takePowerOn.leaveReset .powerOn low contacts, rfl, rfl, rfl, ?_, ?_⟩
  · simp only [exec, execPowerOnReset, State.takePowerOn, if_true]
  · have hstrings (g : StringId) : s.takePowerOn.eng.str g = { StringRec.blank with observed := (s.eng.str g).observed } :=
      get_map _ _ _
    simp only [State.leaveReset, Engine.leave, hstrings]
    simp only [State.takePowerOn, Alert.powerOn_left, powerOn_profile_read]
    rfl

/-- Settles O21: every block by what it takes; the strings record by record. -/
theorem pinResetIsTaken : Obligations.PinResetIsTaken := by
  unfold Obligations.PinResetIsTaken
  intro s hs
  refine ⟨s.takePinReset, ?_, ?_⟩
  · simp [exec, execPinReset, hs]
  · have hctx (c : CtxId) : s.takePinReset.eng.ctx c = none := get_replicate _ _
    have hstr (g : StringId) : s.takePinReset.eng.str g = (s.eng.str g).reset := get_map _ _ _
    exact ⟨rfl, rfl, rfl, rfl, rfl, hctx, rfl, rfl, rfl, rfl, rfl, rfl, rfl, rfl, rfl, rfl, rfl, rfl, rfl, rfl, rfl, rfl,
      hstr⟩

/-- The words of the port at reset (section 11.2). -/
theorem reset_port_words : (List.range 28).map State.reset.readByte
    = [0x4D, 0x03, 0x01, 0, 0, 0, 50, 0, 0, 0, 0, 0, 0, 0, 0, 0, 0, 0, 0x01, 0x00, 0xFF, 0xFF, 0, 0xFF, 0, 0, 0, 0] := by
  decide +kernel

/-- The profile at reset (section 11.3). -/
theorem reset_profile_bytes : (List.range 64).map (profileByte State.reset.profile)
    = [0x00, 2, 24, 24, 24, 24, 24, 24, 24, 24, 0x8C, 0x0A, 0xC2, 0x01, 0xF4, 0x01, 3, 0xF4, 0x01, 0xF4, 0x01, 60, 0,
       60, 30, 0, 10, 60, 0, 0xF4, 0x01, 60, 0, 20, 120, 0, 5, 10, 20, 8, 10, 120, 0, 0, 0, 0x05]
      ++ List.replicate 17 0x00 ++ [0x00] := by
  decide +kernel

theorem reset_slot (n : SlotId) : State.reset.eng.slot n = Slot.blank := get_replicate _ _
theorem reset_ctx (c : CtxId) : State.reset.eng.ctx c = none := get_replicate _ _
theorem reset_str (g : StringId) : State.reset.eng.str g = StringRec.blank := get_replicate _ _

/-- Nothing is commanded to EQUALISE at reset. -/
theorem reset_oneEqualise : State.reset.eng.oneEqualise := by
  intro g k hg
  rw [reset_str] at hg
  exact absurd hg (by decide)

/-- The status byte at reset: ALERT and FREE_SLOT (R167). -/
theorem reset_statusByte : State.reset.statusByte = 0x90 := by decide +kernel

/-- Settles O24, value by value. -/
theorem resetValues : Obligations.ResetValues := by
  unfold Obligations.ResetValues
  refine ⟨reset_port_words, fun n => by rw [reset_slot]; rfl, reset_ctx, rfl, fun g => ?_, rfl, rfl, rfl, rfl,
    reset_statusByte, reset_profile_bytes, powerOn_profile_read.2, rfl, reset_oneEqualise, rfl, ?_, ⟨rfl, Or.inl rfl⟩,
    rfl, rfl⟩
  · rw [reset_str]
    exact ⟨rfl, rfl, rfl, rfl⟩
  · intro h
    exact absurd h (by decide)

end Sys2Proof.Machine
end

section
/-! SUPPORT. POST refused (R8, R9), the ranges of a body (R4 to R7), and RELEASE (R22). -/

namespace Sys2Proof.Machine

/-! ## Mark requests that hand over nothing -/

/-- A mark request that is taken, where the board hands over no work and no event. -/
theorem exec_mark_quiet {i : Instr} {s : State} {a : BitVec 16} {v : Byte} {n : SlotId} {e : Engine}
    (hi : Sends i ⟨a, [v]⟩) (hs : s.linkUp) (ha : low13 a = 0x0100 + 64 * n.val)
    (he : s.eng.markRequest s.profile n v = some e) (hw : e.agenda = []) (hr : e.raised = []) :
    exec i s = .next { (s.echo a).ended false with eng := e } := by
  rw [exec_mark_taken hi hs ha he, State.act_plain _ _ hw hr]

/-! ## The first failing check (R8) -/

/-- The reason of the first check of a list that fails. -/
def firstFailing : List (Bool × Reason) → Option Reason
  | [] => none
  | (c, x) :: rest => if c then some x else firstFailing rest

/-- The checks of a POST in the manual's order (R8). -/
def Engine.refusalChecks (e : Engine) (p : Profile) (y : Slot) : List (Bool × Reason) :=
  [(!(within 1 5 (orderCode y)), .unknownKind), (e.board.standingDown, .standingDown),
   (needsStrings y && !isConfirmed p, .profileUnconfirmed), (maskMissing y, .emptyMask), (!paramsOk y, .paramRange),
   (!everyString y (isFitted p), .stringNotFitted),
   (needsStrings y && !everyString y (fun g => (e.str g).sel != .faulted), .stringFaulted),
   (needsStrings y && !everyString y (fun g => (e.str g).census == .established), .noCensus),
   (orderKind y == some .giveBack && !everyString y (fun g => (e.str g).stranded), .notStranded)]

theorem Engine.refusal_eq (e : Engine) (p : Profile) (y : Slot) :
    e.refusal p y = firstFailing (e.refusalChecks p y) := rfl

/-- A stated check says what a check of the model decides, and gives the same reason. -/
def SameCheck (c : Prop × Reason) (b : Bool × Reason) : Prop := (c.1 ↔ b.1 = true) ∧ c.2 = b.2

theorem firstFailing_of_split {cs : List (Prop × Reason)} {bs : List (Bool × Reason)} (h : List.Forall₂ SameCheck cs bs)
    {before after : List (Prop × Reason)} {c : Prop} {x : Reason} (hcs : cs = before ++ (c, x) :: after) (hc : c)
    (hb : ∀ z ∈ before, ¬ z.1) : firstFailing bs = some x := by
  induction before generalizing cs bs with
  | nil =>
    subst hcs
    cases h with
    | cons hd _ =>
      obtain ⟨h1, h2⟩ := hd
      simp [firstFailing, h1.mp hc, ← h2]
  | cons z before ih =>
    subst hcs
    cases h with
    | cons hd tl =>
      have hz : ¬ z.1 := hb z List.mem_cons_self
      rw [firstFailing, if_neg fun hy => hz (hd.1.mpr hy)]
      exact ih tl rfl fun y hy => hb y (List.mem_cons_of_mem _ hy)

theorem firstFailing_none {cs : List (Prop × Reason)} {bs : List (Bool × Reason)} (h : List.Forall₂ SameCheck cs bs)
    (hn : ∀ z ∈ cs, ¬ z.1) : firstFailing bs = none := by
  induction h with
  | nil => rfl
  | cons hd _ ih =>
    rw [firstFailing, if_neg fun hy => hn _ List.mem_cons_self (hd.1.mpr hy)]
    exact ih fun y hy => hn y (List.mem_cons_of_mem _ hy)

/-! ## Kinds and strings of a body -/

theorem mem_allStrings (g : StringId) : g ∈ allStrings := by revert g; decide

theorem mem_stringsOf {m : StringMask} {g : StringId} : g ∈ stringsOf m ↔ m.getLsbD g.val = true := by
  simp [stringsOf, mem_allStrings, hasString]

/-- Every mask string passes a test. -/
theorem everyString_iff {y : Slot} {f : StringId → Bool} :
    everyString y f = true ↔ ∀ g : StringId, (orderMask y).getLsbD g.val = true → f g = true := by
  simp [everyString, List.all_eq_true, mem_stringsOf]

theorem orderKind_survey {y : Slot} : orderKind y = some .survey ↔ orderCode y = 1 := by
  unfold orderKind; split <;> simp_all

theorem orderKind_equalise {y : Slot} : orderKind y = some .equalise ↔ orderCode y = 2 := by
  unfold orderKind; split <;> simp_all

theorem orderKind_water {y : Slot} : orderKind y = some .water ↔ orderCode y = 3 := by
  unfold orderKind; split <;> simp_all

theorem orderKind_giveBack {y : Slot} : orderKind y = some .giveBack ↔ orderCode y = 4 := by
  unfold orderKind; split <;> simp_all

theorem needsStrings_iff {y : Slot} :
    needsStrings y = true ↔ orderCode y = 2 ∨ orderCode y = 3 ∨ orderCode y = 4 := by
  simp [needsStrings, orderKind_equalise, orderKind_water, orderKind_giveBack, or_assoc]

/-! ## Ranges of a body (R4 to R7) -/

theorem within_iff {low high x : Nat} : within low high x = true ↔ low ≤ x ∧ x ≤ high := by simp [within]

/-- A byte with no bit above the lowest ones is at most what those make. -/
theorem no_high_bits (v : Byte) :
    (v &&& 0xFE = 0 ↔ v.toNat ≤ 1) ∧ (v &&& 0xFC = 0 ↔ v.toNat ≤ 3) ∧ (v &&& 0xF0 = 0 ↔ v.toNat ≤ 15) := by
  revert v; decide +kernel

theorem byte_ne_zero (v : Byte) : v ≠ 0 ↔ 1 ≤ v.toNat := by
  rw [Nat.one_le_iff_ne_zero, ne_eq, ne_eq, ← BitVec.toNat_inj]; rfl

theorem commonParamsOk_iff {y : Slot} :
    commonParamsOk y = true ↔ (bodyByte y 2).toNat ≤ 1 ∧ bodyHalf y 4 ≤ 1440 := by
  simp [commonParamsOk, within_iff, startBy]

theorem equaliseParamsOk_iff {y : Slot} :
    equaliseParamsOk y = true ↔ (2300 ≤ bodyHalf y 6 ∧ bodyHalf y 6 ≤ 2550) ∧ (10 ≤ bodyHalf y 8 ∧ bodyHalf y 8 ≤ 1000)
      ∧ (bodyByte y 10).toNat ≤ 240 ∧ (30 ≤ bodyHalf y 11 ∧ bodyHalf y 11 ≤ 720)
      ∧ (bodyByte y 10).toNat ≤ bodyHalf y 11 ∧ (1 ≤ (bodyByte y 13).toNat ∧ (bodyByte y 13).toNat ≤ 50)
      ∧ (1 ≤ (bodyByte y 14).toNat ∧ (bodyByte y 14).toNat ≤ 20)
      ∧ (3 ≤ (bodyByte y 15).toNat ∧ (bodyByte y 15).toNat ≤ 12) ∧ (bodyByte y 16).toNat ≤ 15 ∧ bodyHalf y 17 ≤ 2000
      ∧ ((bodyByte y 16).getLsbD 1 = true → 100 ≤ bodyHalf y 19 ∧ bodyHalf y 19 ≤ 20000) := by
  simp only [equaliseParamsOk, Bool.and_eq_true, Bool.or_eq_true, Bool.not_eq_true', within_iff, beq_iff_eq,
    decide_eq_true_eq, (no_high_bits (bodyByte y 16)).2.2, and_assoc, Nat.zero_le, true_and]
  simp only [perCellTarget, currentLimit, minHold, maxHold, voltBand, gravityBand, settleCount, chargeCap, bodyFlag]
  cases (bodyByte y 16).getLsbD 1 <;> simp

/-- The fields of a body by its kind (R4 to R7). -/
theorem paramsOk_iff {y : Slot} :
    paramsOk y = true ↔ commonParamsOk y = true
      ∧ (orderCode y = 1 → (bodyByte y 6).toNat ≤ 1 ∧ 1 ≤ (bodyByte y 7).toNat ∧ (bodyByte y 7).toNat ≤ 8)
      ∧ (orderCode y = 2 → equaliseParamsOk y = true)
      ∧ (orderCode y = 3 → (100 ≤ bodyHalf y 6 ∧ bodyHalf y 6 ≤ 20000) ∧ (bodyByte y 8).toNat ≤ 3)
      ∧ (orderCode y = 5 → 1 ≤ (bodyByte y 6).toNat ∧ (bodyByte y 6).toNat ≤ 15) := by
  obtain ⟨hFE, -, hF0⟩ := no_high_bits (bodyByte y 6)
  have hFC := (no_high_bits (bodyByte y 8)).2.1
  unfold paramsOk
  split
  case h_1 h =>
    simp only [h, Bool.and_eq_true, within_iff, sweepCount, beq_iff_eq, hFE]
    simp
  case h_2 h => simp [h]
  case h_3 h =>
    simp only [h, Bool.and_eq_true, within_iff, beq_iff_eq, hFC]
    simp
  case h_4 h =>
    simp only [h, Bool.and_eq_true, bne_iff_ne, ne_eq, beq_iff_eq, hF0, byte_ne_zero]
    simp
  case h_5 h1 h2 h3 h5 =>
    have g1 : orderCode y ≠ 1 := h1
    have g2 : orderCode y ≠ 2 := h2
    have g3 : orderCode y ≠ 3 := h3
    have g5 : orderCode y ≠ 5 := h5
    simp [g1, g2, g3, g5]

/-! ## POST refused -/

/-- The slot of a refused POST takes its reason, and nothing else changes (R9). -/
theorem Engine.post_refused {e : Engine} {p : Profile} {n : SlotId} {x : Reason}
    (h : e.refusal p (e.slot n) = some x) : e.post p n = e.modSlot n fun y => y.refuse x e.clock := by
  simp [Engine.post, h]

theorem isFalse_iff {b : Bool} : (!b) = true ↔ b = false := by simp

/-- The stated checks of a POST are those of the model, in the same order. -/
theorem refusalChecks_stated (e : Engine) (p : Profile) (y : Slot) :
    List.Forall₂ SameCheck
      [(orderCode y = 0 ∨ 5 < orderCode y, .unknownKind), (e.board.standingDown = true, .standingDown),
       ((orderCode y = 2 ∨ orderCode y = 3 ∨ orderCode y = 4) ∧ isConfirmed p = false, .profileUnconfirmed),
       (orderMask y = 0 ∧ (orderCode y ≠ 5 ∨ scopeCells y = true ∨ scopeStrings y = true), .emptyMask),
       (paramsOk y = false, .paramRange),
       (¬ ∀ g : StringId, (orderMask y).getLsbD g.val = true → isFitted p g = true, .stringNotFitted),
       ((orderCode y = 2 ∨ orderCode y = 3 ∨ orderCode y = 4)
          ∧ ¬ ∀ g : StringId, (orderMask y).getLsbD g.val = true → (e.str g).sel ≠ .faulted, .stringFaulted),
       ((orderCode y = 2 ∨ orderCode y = 3 ∨ orderCode y = 4)
          ∧ ¬ ∀ g : StringId, (orderMask y).getLsbD g.val = true → (e.str g).census = .established, .noCensus),
       (orderCode y = 4 ∧ ¬ ∀ g : StringId, (orderMask y).getLsbD g.val = true → (e.str g).stranded = true,
          .notStranded)]
      (e.refusalChecks p y) := by
  refine .cons ⟨?_, rfl⟩ <| .cons ⟨.rfl, rfl⟩ <| .cons ⟨?_, rfl⟩ <| .cons ⟨?_, rfl⟩ <| .cons ⟨?_, rfl⟩ <|
    .cons ⟨?_, rfl⟩ <| .cons ⟨?_, rfl⟩ <| .cons ⟨?_, rfl⟩ <| .cons ⟨?_, rfl⟩ .nil
  · rw [isFalse_iff, ← Bool.not_eq_true, within_iff]
    omega
  · rw [Bool.and_eq_true, needsStrings_iff, isFalse_iff]
  · simp [maskMissing, isClear, or_assoc]
  · rw [isFalse_iff]
  · rw [isFalse_iff, ← Bool.not_eq_true, everyString_iff]
  · rw [Bool.and_eq_true, needsStrings_iff, isFalse_iff, ← Bool.not_eq_true, everyString_iff]
    simp only [bne_iff_ne]
  · rw [Bool.and_eq_true, needsStrings_iff, isFalse_iff, ← Bool.not_eq_true, everyString_iff]
    simp only [beq_iff_eq]
  · rw [Bool.and_eq_true, beq_iff_eq, orderKind_giveBack, isFalse_iff, ← Bool.not_eq_true, everyString_iff]

/-- Settles O25: a refused POST hands over nothing; the checks are the model's list; the ranges field by field. -/
theorem postIsRefusedForTheFirstFailingCheck : Obligations.PostIsRefusedForTheFirstFailingCheck := by
  unfold Obligations.PostIsRefusedForTheFirstFailingCheck
  refine ⟨fun s a n x hs hc ha hfree hx => ?_, fun e p y => ?_⟩
  · have hpost := (Engine.markRequest_post s.profile hfree).trans (congrArg some (Engine.post_refused hx))
    rw [exec_mark_quiet (sends_post _) hs ha hpost hc.1 hc.2]
    rfl
  · dsimp only
    refine ⟨fun before after c x hcs hcheck hb => ?_, fun hn => ?_, ?_⟩
    · rw [Engine.refusal_eq]
      exact firstFailing_of_split (refusalChecks_stated e p y) hcs hcheck hb
    · rw [Engine.refusal_eq]
      exact firstFailing_none (refusalChecks_stated e p y) hn
    · rw [paramsOk_iff, commonParamsOk_iff, equaliseParamsOk_iff]
      simp only [Nat.zero_le, true_and, and_assoc]
      rfl

end Sys2Proof.Machine
end

section
/-! SUPPORT. RELEASE and the settled set (R22). -/

namespace Sys2Proof.Machine

/-! ## Words made bit by bit -/

/-- Bit `k` of a word in which the numbers of the entries that pass a test are set. -/
theorem getLsbD_foldl_bits {w : Nat} {α : Type} (num : α → Nat) (P : α → Prop) [DecidablePred P] (l : List α)
    (x : BitVec w) {k : Nat} (hk : k < w) :
    (l.foldl (fun m n => if P n then m ||| (1#w <<< num n) else m) x).getLsbD k = true
      ↔ x.getLsbD k = true ∨ ∃ n ∈ l, num n = k ∧ P n := by
  have one_shift (j : Nat) : (1#w <<< j).getLsbD k = true ↔ j = k := by
    simp only [BitVec.getLsbD_shiftLeft, BitVec.getLsbD_one, Bool.and_eq_true, Bool.not_eq_true', decide_eq_true_eq,
      decide_eq_false_iff_not]
    omega
  induction l generalizing x with
  | nil => simp
  | cons n l ih =>
    refine (ih _).trans ?_
    by_cases hP : P n
    · simp only [if_pos hP, BitVec.getLsbD_or, Bool.or_eq_true, one_shift, List.mem_cons, exists_eq_or_imp]
      tauto
    · simp only [if_neg hP, List.mem_cons, exists_eq_or_imp]
      tauto

theorem mem_allSlots (n : SlotId) : n ∈ allSlots := by revert n; decide

/-- A slot is in the settled set exactly while it is SETTLED or REFUSED (R22). -/
theorem Engine.mem_settledSet (e : Engine) (n : SlotId) :
    e.settledSet.getLsbD n.val = true ↔ (e.slot n).mark = .settled ∨ (e.slot n).mark = .refused := by
  unfold Engine.settledSet
  rw [getLsbD_foldl_bits (fun n : SlotId => n.val) _ _ _ n.isLt]
  constructor
  · rintro (h | ⟨m, -, hm, h⟩)
    · exact absurd h (by simp)
    · rwa [← Fin.ext hm]
  · exact fun h => .inr ⟨n, mem_allSlots n, rfl, h⟩

/-- The settled set is empty exactly where no slot is SETTLED or REFUSED. -/
theorem Engine.settledSet_ne_zero (e : Engine) :
    e.settledSet ≠ 0 ↔ ∃ n, (e.slot n).mark = .settled ∨ (e.slot n).mark = .refused := by
  constructor
  · intro h
    by_contra hn
    refine h (BitVec.eq_of_getLsbD_eq fun i hi => ?_)
    have := mt (e.mem_settledSet ⟨i, hi⟩).mp fun y => hn ⟨_, y⟩
    simpa using this
  · rintro ⟨n, hn⟩ h
    have hbit := (e.mem_settledSet n).mpr hn
    rw [h] at hbit
    exact absurd hbit (by simp)

/-! ## The status byte (R167) -/

/-- A bit in its place. -/
theorem bitAt_getLsbD (b : Bool) {k j : Nat} (hk : k < 8) : (bitAt b j).getLsbD k = (b && decide (j = k)) := by
  cases b with
  | false => simp [bitAt]
  | true =>
    simp only [bitAt, if_true, BitVec.getLsbD_shiftLeft, BitVec.getLsbD_one, Bool.true_and]
    rw [Bool.eq_iff_iff]
    simp only [Bool.and_eq_true, Bool.not_eq_true', decide_eq_true_eq, decide_eq_false_iff_not]
    omega

theorem State.statusByte_settled (s : State) :
    s.statusByte.getLsbD 6 = true ↔ ∃ n, (s.eng.slot n).mark = .settled ∨ (s.eng.slot n).mark = .refused := by
  rw [← Engine.settledSet_ne_zero]
  simp only [State.statusByte, BitVec.getLsbD_or, bitAt_getLsbD _ (show 6 < 8 by decide)]
  simp

theorem State.statusByte_free (s : State) :
    s.statusByte.getLsbD 4 = true ↔ ∃ n, (s.eng.slot n).mark = .free := by
  simp only [State.statusByte, BitVec.getLsbD_or, bitAt_getLsbD _ (show 4 < 8 by decide)]
  simp [Engine.anyFree, mem_allSlots]

/-- A byte of a sixteen-bit word, least significant first. -/
theorem leByte_word (w : BitVec 16) : leByte w.toNat 0 = w.extractLsb' 0 8 ∧ leByte w.toNat 1 = w.extractLsb' 8 8 := by
  constructor <;> apply BitVec.eq_of_toNat_eq <;>
    simp [leByte, BitVec.extractLsb'_toNat, Nat.shiftRight_eq_div_pow]

theorem Engine.release_eq (e : Engine) (n : SlotId) :
    e.release n = e.putSlot n { e.slot n with mark := .free, seq := none } := rfl

/-- Settles O29: a RELEASE hands over nothing, and the settled set is computed from the marks. -/
theorem releaseFreesTheSlot : Obligations.ReleaseFreesTheSlot := by
  unfold Obligations.ReleaseFreesTheSlot
  refine ⟨fun s a n hs hc ha hm => ?_, Engine.mem_settledSet, fun s => ⟨s.statusByte_settled, s.statusByte_free,
    (leByte_word _).1, (leByte_word _).2, fun hs a v ha => ?_⟩⟩
  · exact exec_mark_quiet (sends_release _) hs ha (Engine.markRequest_release s.profile hm) hc.1 hc.2
  · exact exec_unowned (sends_registerWrite _) hs (by unfold hasPortOwner; omega) (outside_slots (by omega))

end Sys2Proof.Machine
end

section
/-! SUPPORT. Work of the blocks, piece by piece: what a few pieces lead to, scans that start nothing, and causes that
contexts on their way back take (log 15). -/

namespace Sys2Proof.Machine

/-! ## What a few pieces of work lead to -/

/-- In at most `n` pieces of work the blocks come from `e` to `e'`. -/
def Engine.Leads (p : Profile) (n : Nat) (e e' : Engine) : Prop := ∃ k ≤ n, Engine.drain p k e = e'

theorem Engine.drain_add (p : Profile) (j k : Nat) (e : Engine) :
    Engine.drain p (j + k) e = Engine.drain p k (Engine.drain p j e) := by
  induction j generalizing e with
  | zero => rw [Nat.zero_add]; rfl
  | succ j ih =>
    by_cases h : e.agenda = []
    · simp only [Engine.drain_nil p _ e h]
    · rw [Nat.add_right_comm, Engine.drain_succ p _ e h, Engine.drain_succ p _ e h, ih]

theorem Engine.Leads.refl (p : Profile) (e : Engine) : e.Leads p 0 e := ⟨0, le_rfl, rfl⟩

theorem Engine.Leads.trans {p : Profile} {m n : Nat} {e e' e'' : Engine} (h : e.Leads p m e') (h' : e'.Leads p n e'') :
    e.Leads p (m + n) e'' := by
  obtain ⟨j, hj, rfl⟩ := h
  obtain ⟨k, hk, rfl⟩ := h'
  exact ⟨j + k, Nat.add_le_add hj hk, Engine.drain_add p j k e⟩

theorem Engine.Leads.mono {p : Profile} {m n : Nat} {e e' : Engine} (h : e.Leads p m e') (hmn : m ≤ n) :
    e.Leads p n e' := by
  obtain ⟨k, hk, hd⟩ := h
  exact ⟨k, hk.trans hmn, hd⟩

/-- The first piece of what is handed over is done with the rest waiting. -/
theorem Engine.leads_work (p : Profile) (e : Engine) (w : Work) (ws : List Work) :
    (e.hand (w :: ws)).Leads p 1 ((e.hand ws).work p w) := ⟨1, le_rfl, rfl⟩

/-- One piece that does this, then what that leads to. -/
theorem Engine.Leads.step {p : Profile} {n : Nat} {e f e' : Engine} {w : Work} {ws : List Work}
    (hw : (e.hand ws).work p w = f) (h : f.Leads p n e') : (e.hand (w :: ws)).Leads p (n + 1) e' := by
  subst hw
  rw [Nat.add_comm]
  exact (Engine.leads_work p e w ws).trans h

/-- What the blocks do where the work they hand over is done in few enough pieces: its events are judged. -/
theorem State.act_leads {s : State} {f : Engine → Engine} {n : Nat} {e : Engine}
    (h : (f s.eng).Leads s.profile n e) (hn : n ≤ 1000) (ha : e.agenda = []) :
    s.act f = { s with eng := { e with raised := [] }, alert := e.raised.foldl Alert.capture s.alert } := by
  obtain ⟨k, hk, hd⟩ := h
  have hb : Config.workBudget = k + (Config.workBudget - k) := by
    have : k ≤ Config.workBudget := (hk.trans hn).trans (by decide)
    omega
  simp only [State.act, State.absorb]
  rw [hb, Engine.drain_add, hd, Engine.drain_nil _ _ _ ha]
  rw [show ({ e with raised := [], agenda := [] } : Engine) = { e with raised := [] } by rw [← ha]]

/-- As before, where no event is handed either. -/
theorem State.act_leads_quiet {s : State} {f : Engine → Engine} {n : Nat} {e : Engine}
    (h : (f s.eng).Leads s.profile n e) (hn : n ≤ 1000) (ha : e.agenda = []) (hr : e.raised = []) :
    s.act f = { s with eng := e } := by
  rw [State.act_leads h hn ha, hr]
  simp only [List.foldl_nil]
  rw [show ({ e with raised := [] } : Engine) = e by rw [← hr]]

/-- A mark request that is taken, with the work it leads to: its events are judged. -/
theorem exec_mark_leads {i : Instr} {s : State} {a : BitVec 16} {v : Byte} {n : SlotId} {k : Nat} {e e' : Engine}
    (hi : Sends i ⟨a, [v]⟩) (hs : s.linkUp) (ha : low13 a = 0x0100 + 64 * n.val)
    (he : s.eng.markRequest s.profile n v = some e) (hl : e.Leads s.profile k e') (hk : k ≤ 1000) (hw : e'.agenda = []) :
    exec i s = .next { (s.echo a).ended false with
      eng := { e' with raised := [] }, alert := e'.raised.foldl Alert.capture s.alert } := by
  rw [exec_mark_taken hi hs ha he]
  exact congrArg Host.Outcome.next (State.act_leads (s := (s.echo a).ended false) (f := fun _ => e) hl hk hw)

/-- As before, where no event is handed. -/
theorem exec_mark_leads_quiet {i : Instr} {s : State} {a : BitVec 16} {v : Byte} {n : SlotId} {k : Nat} {e e' : Engine}
    (hi : Sends i ⟨a, [v]⟩) (hs : s.linkUp) (ha : low13 a = 0x0100 + 64 * n.val)
    (he : s.eng.markRequest s.profile n v = some e) (hl : e.Leads s.profile k e') (hk : k ≤ 1000) (hw : e'.agenda = [])
    (hr : e'.raised = []) : exec i s = .next { (s.echo a).ended false with eng := e' } := by
  rw [exec_mark_taken hi hs ha he]
  exact congrArg Host.Outcome.next (State.act_leads_quiet (s := (s.echo a).ended false) (f := fun _ => e) hl hk hw hr)

/-! ## Handing over -/

@[simp] theorem Engine.hand_nil (e : Engine) : e.hand [] = e := rfl

theorem Engine.hand_hand (e : Engine) (vs ws : List Work) : (e.hand ws).hand vs = e.hand (vs ++ ws) := by
  simp [Engine.hand]

@[simp] theorem Engine.hand_ctx (e : Engine) (ws : List Work) (c : CtxId) : (e.hand ws).ctx c = e.ctx c := rfl
@[simp] theorem Engine.hand_slot (e : Engine) (ws : List Work) (n : SlotId) : (e.hand ws).slot n = e.slot n := rfl
@[simp] theorem Engine.hand_str (e : Engine) (ws : List Work) (g : StringId) : (e.hand ws).str g = e.str g := rfl
@[simp] theorem Engine.hand_owner (e : Engine) (ws : List Work) (g : StringId) : (e.hand ws).owner g = e.owner g := rfl
@[simp] theorem Engine.hand_freeCtx (e : Engine) (ws : List Work) : (e.hand ws).freeCtx = e.freeCtx := rfl
@[simp] theorem Engine.hand_anyBusy (e : Engine) (ws : List Work) : (e.hand ws).anyBusy = e.anyBusy := rfl

theorem Engine.hand_putRound (e : Engine) (ws : List Work) (c : CtxId) (r : Round) :
    (e.hand ws).putRound c r = (e.putRound c r).hand ws := rfl

/-! ## Scans that start nothing (R14) -/

/-- A dispatch scan of an empty queue does nothing. -/
theorem Engine.leads_scan_empty (p : Profile) {e : Engine} (ws : List Work) (hq : e.board.queue = []) :
    (e.hand (.scan :: ws)).Leads p 1 (e.hand ws) :=
  .step (by simp [Engine.work, hq]) (.refl p _)

/-- A dispatch scan walks the queue from its front. -/
theorem Engine.leads_scan (p : Profile) {e : Engine} (ws : List Work) (hq : e.board.queue ≠ []) :
    (e.hand (.scan :: ws)).Leads p 1 (e.hand (.walk e.board.queue :: ws)) :=
  .step (by simp [Engine.work, hq, Engine.hand_hand]) (.refl p _)

/-- The walk is over behind the last entry. -/
theorem Engine.leads_walk_nil (p : Profile) (e : Engine) (ws : List Work) :
    (e.hand (.walk [] :: ws)).Leads p 1 (e.hand ws) := .step rfl (.refl p _)

/-- With no context free, a walk passes over every entry (R16). -/
theorem Engine.leads_walk_full (p : Profile) {e : Engine} (ws : List Work) (hf : e.freeCtx = none) (q : List SlotId) :
    (e.hand (.walk q :: ws)).Leads p (q.length + 1) (e.hand ws) := by
  induction q with
  | nil => exact Engine.leads_walk_nil p e ws
  | cons n q ih =>
    refine .step (f := e.hand (.walk q :: ws)) ?_ ih
    simp [Engine.work, Engine.walkOne, hf, Engine.hand_hand]

/-- With no context free, a scan starts nothing. -/
theorem Engine.leads_scan_full (p : Profile) {e : Engine} (ws : List Work) (hf : e.freeCtx = none) :
    (e.hand (.scan :: ws)).Leads p (e.board.queue.length + 2) (e.hand ws) := by
  by_cases hq : e.board.queue = []
  · exact (Engine.leads_scan_empty p ws hq).mono (by omega)
  · exact ((Engine.leads_scan p ws hq).trans (Engine.leads_walk_full p ws hf _)).mono (by omega)

/-! ## Causes that contexts on their way back take (R34 to R36) -/

/-- A string is on its way back: a cause changes nothing of the transfers (R35). -/
def Round.onWayBack (r : Round) : Prop := r.phase = .matching ∨ r.phase = .returning

theorem Round.putOutcome_phase (r : Round) (g : StringId) (o : Outcome) : (r.putOutcome g o).phase = r.phase := by
  unfold Round.putOutcome; split <;> rfl

theorem Round.putOutcomes_phase (r : Round) (m : StringMask) (o : Outcome) : (r.putOutcomes m o).phase = r.phase := by
  unfold Round.putOutcomes
  induction stringsOf m generalizing r with
  | nil => rfl
  | cons g gs ih => exact (ih _).trans (r.putOutcome_phase g o)

/-- A cause changes no phase by itself. -/
theorem Round.takeCause_phase (r : Round) (x : Cause) : (r.takeCause x).phase = r.phase := by
  unfold Round.takeCause
  split
  · rfl
  · exact r.putOutcomes_phase _ _

/-- A context whose string is on its way back records or counts the cause, and goes on. -/
theorem Engine.takeCause_onWayBack {r : Round} (e : Engine) (p : Profile) (c : CtxId) (x : Cause) (h : r.onWayBack) :
    e.takeCause p c r x = e.putRound c (r.takeCause x) := by
  unfold Engine.takeCause
  split
  · rfl
  · rcases h with h | h <;> simp [Engine.bringToRest, Round.takeCause_phase, h]

/-- The work of a site cause delivered to a context, if it is busy. -/
def Engine.causeWork (e : Engine) (x : Cause) (c : CtxId) : Option Work := (e.ctx c).map fun r => .cause c r.slot x

/-- The blocks once a context has taken a cause on its way back. -/
def Engine.causeTaken (x : Cause) (e : Engine) (c : CtxId) : Engine :=
  match e.ctx c with
  | some r => e.putRound c (r.takeCause x)
  | none => e

theorem Engine.causeTaken_ctx_other {e : Engine} {x : Cause} {c d : CtxId} (h : d ≠ c) :
    (Engine.causeTaken x e c).ctx d = e.ctx d := by
  unfold Engine.causeTaken
  split
  · exact e.ctx_putRound_other _ h
  · rfl

theorem Engine.causeTaken_ctx_same {e : Engine} {x : Cause} {c : CtxId} :
    (Engine.causeTaken x e c).ctx c = (e.ctx c).map fun r => r.takeCause x := by
  unfold Engine.causeTaken
  split
  · rename_i r hr; simp [hr]
  · rename_i hr; simp [hr]

/-- Causes delivered to some contexts, each on its way back, are taken by each. -/
theorem Engine.leads_causes (p : Profile) (x : Cause) (ws : List Work) {l : List CtxId} (hl : l.Nodup) (e : Engine)
    (hb : ∀ c ∈ l, ∀ r, e.ctx c = some r → r.onWayBack) :
    (e.hand (l.filterMap (e.causeWork x) ++ ws)).Leads p l.length ((l.foldl (Engine.causeTaken x) e).hand ws) := by
  induction l generalizing e with
  | nil => exact .refl p _
  | cons c l ih =>
    obtain ⟨hc, hl⟩ := List.nodup_cons.mp hl
    have hother (d : CtxId) (hd : d ∈ l) : (Engine.causeTaken x e c).ctx d = e.ctx d :=
      Engine.causeTaken_ctx_other fun h => hc (h ▸ hd)
    have hrest : l.filterMap ((Engine.causeTaken x e c).causeWork x) = l.filterMap (e.causeWork x) :=
      List.filterMap_congr fun d hd => by simp only [Engine.causeWork, hother d hd]
    have htail := ih hl (Engine.causeTaken x e c) fun d hd r hr =>
      hb d (List.mem_cons_of_mem _ hd) r (hother d hd ▸ hr)
    rw [hrest] at htail
    cases hr : e.ctx c with
    | none =>
      have hsame : Engine.causeTaken x e c = e := by simp [Engine.causeTaken, hr]
      rw [hsame] at htail
      simpa [Engine.causeWork, hr, hsame] using htail.mono (Nat.le_succ _)
    | some r =>
      have htake : Engine.causeTaken x e c = e.putRound c (r.takeCause x) := by simp [Engine.causeTaken, hr]
      have hstep : (e.hand (l.filterMap (e.causeWork x) ++ ws)).work p (.cause c r.slot x)
          = (Engine.causeTaken x e c).hand (l.filterMap (e.causeWork x) ++ ws) := by
        rw [htake, ← Engine.hand_putRound, ← Engine.takeCause_onWayBack _ p c x (hb c List.mem_cons_self r hr)]
        simp [Engine.work, Engine.withRound, hr]
      have hlist : (c :: l).filterMap (e.causeWork x) ++ ws
          = .cause c r.slot x :: (l.filterMap (e.causeWork x) ++ ws) := by simp [Engine.causeWork, hr]
      rw [hlist]
      exact .step hstep htail

theorem mem_allCtxs (c : CtxId) : c ∈ allCtxs := by revert c; decide
theorem nodup_allCtxs : allCtxs.Nodup := by decide

end Sys2Proof.Machine
end

section
/-! SUPPORT. Queued settlements (R13, R19, R23), stand-downs (R24) and the queueing of an order (R10, R12). -/

namespace Sys2Proof.Machine

/-! ## The settlement of the one queued order (R13) -/

/-- The queue is empty and its order settled; favour ends with it. -/
theorem Engine.settleQueued_single {e : Engine} {n : SlotId} (o : OrderOutcome) (x : Cause) (hq : e.board.queue = [n]) :
    e.settleQueued n o x = { e with
      board := { (e.putSlot n ((e.slot n).settleQueued o x e.clock)).board with
        queue := [], favoured := if e.board.favoured = some n then none else e.board.favoured },
      raised := e.raised ++ [.settled] } := by
  have hq' : (e.putSlot n ((e.slot n).settleQueued o x e.clock)).board.queue = [n] := hq
  simp only [Engine.settleQueued, Engine.leaveQueue, Engine.refavour, Engine.modBoard, Engine.raise, Engine.modSlot, hq']
  by_cases hf : e.board.favoured = some n
  · simp [Engine.putSlot, hf]
  · cases hv : e.board.favoured <;> simp_all [Engine.putSlot]

/-- What follows the settlement of the one queued order: SETTLED is judged, and the scan starts nothing. -/
theorem State.act_settleQueued {s : State} {f : Engine → Engine} {e : Engine} {n : SlotId} {o : OrderOutcome} {x : Cause}
    (hf : f s.eng = (e.settleQueued n o x).hand [.scan]) (hq : e.board.queue = [n]) (ha : e.agenda = [])
    (hr : e.raised = []) :
    s.act f = { s with
      alert := s.alert.capture .settled,
      eng := { e with board := { (e.putSlot n ((e.slot n).settleQueued o x e.clock)).board with
        queue := [], favoured := if e.board.favoured = some n then none else e.board.favoured } } } := by
  rw [Engine.settleQueued_single o x hq] at hf
  have hl := Engine.leads_scan_empty s.profile (e := { e with
      board := { (e.putSlot n ((e.slot n).settleQueued o x e.clock)).board with
        queue := [], favoured := if e.board.favoured = some n then none else e.board.favoured },
      raised := e.raised ++ [.settled] }) [] rfl
  rw [← hf] at hl
  rw [State.act_leads hl (by decide) ha, hr]
  simp only [List.nil_append, List.foldl_cons, List.foldl_nil, Engine.hand_nil]

/-! ## Deadlines (R19, R94) -/

theorem Engine.startByExpiry_not_queued {e : Engine} {n : SlotId} (active : Bool) (h : (e.slot n).mark ≠ .queued) :
    e.startByExpiry active n = e := by
  unfold Engine.startByExpiry
  split
  · rename_i hm _; exact absurd hm h
  · rfl

/-- A deadline that neither the clock nor the coming advance has reached. -/
theorem Engine.due_none {e : Engine} {d : Clock} (active : Bool) (h : 2 ^ 31 ≤ (e.clock - d).toNat)
    (h' : 2 ^ 31 ≤ (e.clock + 1 - d).toNat) : e.due active d = none := by
  simp only [Engine.due, reached, decide_eq_true_eq, Bool.and_eq_true, if_neg (Nat.not_lt.mpr h)]
  rw [if_neg fun hx => absurd hx.2 (Nat.not_lt.mpr h')]

theorem Engine.due_reached {e : Engine} {d : Clock} (active : Bool) (h : (e.clock - d).toNat < 2 ^ 31) :
    e.due active d = some e := by
  simp only [Engine.due, reached, decide_eq_true_eq, if_pos h]

/-- An attending part that does nothing is as it was. -/
theorem State.whenAwake_unchanged {s : State} {f : Engine → Engine} (hs : s.attending) (hf : f s.eng = s.eng) :
    s.whenAwake f = s := by
  rw [State.whenAwake_attending s f hs, State.act_plain s f (by rw [hf]; exact hs.2.1) (by rw [hf]; exact hs.2.2), hf]

/-- Settles O34: a deadline that is reached settles the order; otherwise the blocks do nothing. -/
theorem deadlineSettlesTheOrder : Obligations.DeadlineSettlesTheOrder := by
  unfold Obligations.DeadlineSettlesTheOrder
  intro s n hs
  refine ⟨fun d hm hd hq hdue => ?_, fun hm => ?_, fun d hd h h' => ?_⟩
  · have hf : s.eng.startByExpiry true n = (s.eng.settleQueued n .expired .expired).hand [.scan] := by
      simp only [Engine.startByExpiry, hm, hd, Engine.due_reached true hdue]
    have hact := State.act_settleQueued (f := fun e => e.startByExpiry true n) hf hq hs.2.1 hs.2.2
    exact congrArg Host.Outcome.next ((State.whenAwake_attending s _ hs).trans hact)
  · exact congrArg Host.Outcome.next (State.whenAwake_unchanged hs (Engine.startByExpiry_not_queued true hm))
  · refine congrArg Host.Outcome.next (State.whenAwake_unchanged hs ?_)
    unfold Engine.startByExpiry
    split
    · rename_i d' _ hd'
      obtain rfl := Option.some.inj (hd.symm.trans hd')
      rw [Engine.due_none true h h']
    · rfl

/-! ## WITHDRAW (R23) -/

/-- The context that carries out a slot's order carries it out. -/
theorem Engine.ctxOf_slot {e : Engine} {n : SlotId} {c : CtxId} {r : Round} (hc : e.ctxOf n = some c)
    (hr : e.ctx c = some r) : r.slot = n := by
  have := List.find?_some hc
  simpa [hr] using this

/-- A WITHDRAW of a RUNNING order whose string is on its way back: the note is set, and the cause taken. -/
theorem Engine.leads_withdrawRunning (p : Profile) {e : Engine} {n : SlotId} {c : CtxId} {r : Round}
    (hn : (e.slot n).withdrawNote = false) (hc : e.ctxOf n = some c) (hr : e.ctx c = some r) (hb : r.onWayBack) :
    (e.withdrawRunning n).Leads p 1
      ((e.modSlot n fun x => { x with withdrawNote := true }).putRound c (r.takeCause .withdrawn)) := by
  have hslot := Engine.ctxOf_slot hc hr
  have hctx : (e.modSlot n fun x => { x with withdrawNote := true }).ctx c = some r := hr
  have hw : e.withdrawRunning n
      = (e.modSlot n fun x => { x with withdrawNote := true }).hand [.cause c n .withdrawn] := by
    simp [Engine.withdrawRunning, hn, hc]
  rw [hw]
  refine .step ?_ (.refl p _)
  rw [← Engine.takeCause_onWayBack _ p c .withdrawn hb]
  simp [Engine.work, Engine.withRound, hctx, hslot]

/-- Settles O30, by the slot's mark. -/
theorem withdrawByMark : Obligations.WithdrawByMark := by
  unfold Obligations.WithdrawByMark
  intro s a n hs hc ha
  have hi := sends_withdraw ⟨a, [0x06]⟩
  refine ⟨fun hm hq => ?_, fun hm hn => ?_, fun c r hm hn hctx hr hb => ?_, fun hm => ?_⟩
  · refine ⟨_, exec_mark_taken hi hs ha (Engine.markRequest_withdraw_queued s.profile hm), ?_⟩
    rw [State.act_settleQueued (e := s.eng) rfl hq hc.1 hc.2]
    have hslot := s.eng.slot_putSlot_same n ((s.eng.slot n).settleQueued .withdrawn .withdrawn s.eng.clock)
    have hother (m : SlotId) (hmn : m ≠ n) :=
      s.eng.slot_putSlot_other ((s.eng.slot n).settleQueued .withdrawn .withdrawn s.eng.clock) hmn
    refine ⟨rfl, congrArg Slot.mark hslot, congrArg (·.result.outcome) hslot, congrArg (·.result.first) hslot,
      congrArg (·.result.settled) hslot, congrArg (·.result.started) hslot, congrArg Slot.deadline hslot, rfl, hother, rfl⟩
  · have hw : s.eng.withdrawRunning n = s.eng := by simp [Engine.withdrawRunning, hn]
    have hreq := (Engine.markRequest_withdraw_running s.profile hm).trans (congrArg some hw)
    exact exec_mark_quiet hi hs ha hreq hc.1 hc.2
  · have hl := Engine.leads_withdrawRunning s.profile hn hctx hr hb
    exact exec_mark_leads_quiet hi hs ha (Engine.markRequest_withdraw_running s.profile hm) hl (by decide) hc.1 hc.2
  · exact exec_mark_quiet hi hs ha (Engine.markRequest_withdraw_settled s.profile hm) hc.1 hc.2

/-! ## STAND_DOWN (R24, R175) -/

/-- A STAND_DOWN is taken by the board, and nothing else happens in the commit. -/
theorem exec_standDown {s : State} {a : BitVec 16} (hs : s.linkUp) (ha : low13 a = 0x0004) :
    exec (.standDown ⟨a, [0x01]⟩) s = .next ((s.echo a).takeStandDown.ended false) := by
  have hx : (Commit.start (s.echo a)).apply (low13 a, 0x01) = (Commit.start (s.echo a)).onState State.takeStandDown := by
    rw [ha]; rfl
  rw [exec_write_one (sends_standDown _) hs (fun _ => by decide),
    State.commit_one_kept _ _ _ _ (outside_slots (by omega)).1 hx]

theorem Engine.anyBusy_iff (e : Engine) : e.anyBusy = true ↔ ∃ c, e.ctx c ≠ none := by
  simp [Engine.anyBusy, mem_allCtxs, Option.isSome_iff_ne_none]

/-- Once each of some contexts has taken a cause: their rounds, and every other block as it was. -/
theorem Engine.causesTaken_ctx {x : Cause} {l : List CtxId} (hl : l.Nodup) (e : Engine) (c : CtxId) :
    (l.foldl (Engine.causeTaken x) e).ctx c = if c ∈ l then (e.ctx c).map fun r => r.takeCause x else e.ctx c := by
  induction l generalizing e with
  | nil => simp
  | cons d l ih =>
    obtain ⟨hd, hl⟩ := List.nodup_cons.mp hl
    rw [List.foldl_cons, ih hl]
    by_cases hcd : c = d
    · subst hcd
      simp [hd, Engine.causeTaken_ctx_same]
    · simp [hcd, Engine.causeTaken_ctx_other hcd]

theorem Engine.causesTaken_rest (x : Cause) (l : List CtxId) (e : Engine) :
    ∃ v, l.foldl (Engine.causeTaken x) e = { e with ctxs := v } := by
  induction l generalizing e with
  | nil => exact ⟨_, rfl⟩
  | cons d l ih =>
    have hd : ∃ v, Engine.causeTaken x e d = { e with ctxs := v } := by
      unfold Engine.causeTaken
      split <;> exact ⟨_, rfl⟩
    obtain ⟨v, hv⟩ := hd
    obtain ⟨u, hu⟩ := ih (Engine.causeTaken x e d)
    exact ⟨u, by rw [List.foldl_cons, hu, hv]⟩

theorem Engine.causeTo_all (e : Engine) (x : Cause) : e.causeTo (fun _ => true) x = allCtxs.filterMap (e.causeWork x) := by
  refine List.filterMap_congr fun c _ => ?_
  unfold Engine.causeWork
  cases e.ctx c <;> rfl

/-- Once every context has taken a cause. -/
theorem Engine.causesTaken_all (x : Cause) (e : Engine) :
    ∃ v, allCtxs.foldl (Engine.causeTaken x) e = { e with ctxs := v }
      ∧ ∀ c, v.get c = (e.ctx c).map fun r => r.takeCause x := by
  obtain ⟨v, hv⟩ := Engine.causesTaken_rest x allCtxs e
  have hctx (c : CtxId) := Engine.causesTaken_ctx (x := x) nodup_allCtxs e c
  simp only [hv, mem_allCtxs, if_true] at hctx
  exact ⟨v, hv, hctx⟩

/-- A stand-down with no order queued and no context busy is over at once. -/
theorem Engine.leads_standDown_idle (p : Profile) {e : Engine} (hq : e.board.queue = []) (hn : ∀ c, e.ctx c = none) :
    e.standDownNext.Leads p 1 (e.raise .standDownDone) := by
  have hcauses : e.causeTo (fun _ => true) .standDown = [] := by
    rw [Engine.causeTo_all]
    exact List.filterMap_eq_nil_iff.mpr fun c _ => by simp [Engine.causeWork, hn c]
  have hnext : e.standDownNext = e.hand [.standDownCheck] := by simp [Engine.standDownNext, hq, hcauses]
  have hidle : e.anyBusy = false := by
    rw [← Bool.not_eq_true, Engine.anyBusy_iff]
    exact fun ⟨c, h⟩ => h (hn c)
  rw [hnext]
  exact .step (by simp [Engine.work, Engine.standDownCheck, hidle]) (.refl _ _)

/-- A stand-down with no order queued and every busy context on its way back goes on until they are freed. -/
theorem Engine.leads_standDown_back (p : Profile) {e : Engine} (hq : e.board.queue = []) (hbusy : ∃ c, e.ctx c ≠ none)
    (hback : ∀ c r, e.ctx c = some r → r.onWayBack) :
    ∃ v, e.standDownNext.Leads p 5 { e with ctxs := v, board := { e.board with standingDown := true } }
      ∧ ∀ c, v.get c = (e.ctx c).map fun r => r.takeCause .standDown := by
  obtain ⟨v, hv, hctx⟩ := Engine.causesTaken_all .standDown e
  have hnext : e.standDownNext = e.hand (allCtxs.filterMap (e.causeWork .standDown) ++ [.standDownCheck]) := by
    simp [Engine.standDownNext, hq, Engine.causeTo_all]
  have hbusy' : ({ e with ctxs := v } : Engine).anyBusy = true := by
    obtain ⟨c, h⟩ := hbusy
    exact (Engine.anyBusy_iff _).mpr ⟨c, by simpa [Engine.ctx, hctx] using h⟩
  have htaken := Engine.leads_causes p .standDown [.standDownCheck] nodup_allCtxs e fun c _ r hr => hback c r hr
  rw [hv] at htaken
  refine ⟨v, ?_, hctx⟩
  rw [hnext]
  exact (htaken.trans (.step (if_pos hbusy') (.refl p _))).mono (by decide)

/-- Settles O33, by the board and the contexts. -/
theorem standDownByBoardState : Obligations.StandDownByBoardState := by
  unfold Obligations.StandDownByBoardState
  intro s a hs hc ha
  rw [exec_standDown hs ha]
  have htake (hd : s.eng.board.standingDown = false) :
      (s.echo a).takeStandDown = ((s.echo a).readBack 0x80).act Engine.standDownNext := if_neg (Bool.eq_false_iff.mp hd)
  refine ⟨fun hd => ?_, fun hd hu => ?_, fun hd hq hbusy hback => ?_⟩
  · have htake : (s.echo a).takeStandDown = (s.echo a).readBack 0x82 := if_pos hd
    rw [htake]
    rfl
  · have hl := Engine.leads_standDown_idle s.profile hu.1 hu.2
    rw [htake hd, State.act_leads (s := (s.echo a).readBack 0x80) hl (by decide) hc.1, Engine.raise_raised, hc.2]
    simp only [Engine.raise]
    rw [show ({ s.eng with raised := [] } : Engine) = s.eng by rw [← hc.2]]
    rfl
  · obtain ⟨v, hl, hctx⟩ := Engine.leads_standDown_back s.profile hq hbusy hback
    rw [htake hd, State.act_leads_quiet (s := (s.echo a).readBack 0x80) hl (by decide) hc.1 hc.2]
    exact ⟨_, rfl, rfl, rfl, rfl, hctx⟩

end Sys2Proof.Machine
end

section
/-! SUPPORT. The queueing of an order (R10, R12), and an executed CLEAR (R11, R63, R75, R109, R145). -/

namespace Sys2Proof.Machine

/-! ## A POST that is accepted -/

theorem isClear_iff {y : Slot} : isClear y = true ↔ orderCode y = 5 := by simp [isClear]

theorem Engine.post_queued {e : Engine} {p : Profile} {n : SlotId} (h : e.refusal p (e.slot n) = none)
    (hk : orderCode (e.slot n) ≠ 5) : e.post p n = e.queueOrder n := by
  simp [Engine.post, h, isClear_iff, hk]

theorem Engine.post_clear {e : Engine} {p : Profile} {n : SlotId} (h : e.refusal p (e.slot n) = none)
    (hk : orderCode (e.slot n) = 5) : e.post p n = e.executeClear p n := by
  simp [Engine.post, h, isClear_iff, hk]

/-- The run queue with an order entered in its class, by the bodies of the slots (R12). -/
def Engine.queueWith (e : Engine) (n : SlotId) : List SlotId :=
  let urgent : SlotId → Bool := fun m => isUrgent (e.slot m)
  if urgent n then e.board.queue.takeWhile urgent ++ n :: e.board.queue.dropWhile urgent else e.board.queue ++ [n]

theorem Engine.queueWith_empty {e : Engine} (n : SlotId) (hq : e.board.queue = []) : e.queueWith n = [n] := by
  simp [Engine.queueWith, hq]

theorem Engine.queueWith_length (e : Engine) (n : SlotId) : (e.queueWith n).length = e.board.queue.length + 1 := by
  unfold Engine.queueWith
  dsimp only
  split
  · have := congrArg List.length (List.takeWhile_append_dropWhile (p := fun m => isUrgent (e.slot m)) (l := e.board.queue))
    simp only [List.length_append, List.length_cons] at this ⊢
    omega
  · simp

/-- The blocks with an order queued (R10, R12). -/
def Engine.queued (e : Engine) (n : SlotId) : Engine :=
  { e with board := { e.board with
      slots := e.board.slots.set n ((e.slot n).queue e.board.nextSeq e.clock)
      nextSeq := e.board.nextSeq + 1
      queue := e.queueWith n } }

/-- A change of a slot that leaves its body leaves its class. -/
theorem Engine.isUrgent_modSlot {e : Engine} {n : SlotId} {f : Slot → Slot} (hf : (f (e.slot n)).body = (e.slot n).body)
    (m : SlotId) : isUrgent ((e.modSlot n f).slot m) = isUrgent (e.slot m) := by
  by_cases h : m = n
  · subst h
    rw [Engine.modSlot_same]
    simp only [isUrgent, bodyByte, hf]
  · exact congrArg isUrgent (e.slot_putSlot_other _ h)

theorem Engine.queueWith_congr {e e' : Engine} (n : SlotId) (hq : e'.board.queue = e.board.queue)
    (hu : ∀ m, isUrgent (e'.slot m) = isUrgent (e.slot m)) : e'.queueWith n = e.queueWith n := by
  simp only [Engine.queueWith, hq, hu]

theorem Engine.enterQueue_eq (e : Engine) (n : SlotId) :
    e.enterQueue n = e.modBoard fun b => { b with queue := e.queueWith n } := rfl

theorem Engine.queueOrder_eq (e : Engine) (n : SlotId) : e.queueOrder n = (e.queued n).hand [.scan] := by
  have hu := e.isUrgent_modSlot (n := n) (f := fun s => s.queue e.board.nextSeq e.clock) rfl
  have hslot (m : SlotId) : ((e.modSlot n fun s => s.queue e.board.nextSeq e.clock).modBoard fun b =>
      { b with nextSeq := b.nextSeq + 1 }).slot m = (e.modSlot n fun s => s.queue e.board.nextSeq e.clock).slot m := rfl
  have hq : ((e.modSlot n fun s => s.queue e.board.nextSeq e.clock).modBoard fun b =>
      { b with nextSeq := b.nextSeq + 1 }).queueWith n = e.queueWith n :=
    Engine.queueWith_congr n rfl fun m => by rw [hslot, hu]
  simp only [Engine.queueOrder, Engine.enterQueue_eq, hq]
  rfl

/-- POST of a sound order that is no CLEAR: the order is queued, and what its scan leads to is all that follows. -/
theorem exec_post_leads {s : State} {a : BitVec 16} {n : SlotId} {j : Nat} {t : Engine} (hs : s.linkUp)
    (ha : low13 a = 0x0100 + 64 * n.val) (hfree : (s.eng.slot n).mark = .free)
    (hok : s.eng.refusal s.profile (s.eng.slot n) = none) (hk : orderCode (s.eng.slot n) ≠ 5)
    (hl : ((s.eng.queued n).hand [.scan]).Leads s.profile j t) (hj : j ≤ 1000) (hw : t.agenda = []) (hr : t.raised = []) :
    exec (.post ⟨a, [0x01]⟩) s = .next { (s.echo a).ended false with eng := t } := by
  have hpost := (Engine.post_queued hok hk).trans (s.eng.queueOrder_eq n)
  exact exec_mark_leads_quiet (sends_post _) hs ha ((Engine.markRequest_post _ hfree).trans (congrArg some hpost)) hl hj
    hw hr

/-- Settles O26: the order enters its class, and the scan that follows finds no context free. -/
theorem postQueuesInItsClass : Obligations.PostQueuesInItsClass := by
  unfold Obligations.PostQueuesInItsClass
  intro s a n hs hc ha hfree hok hk hctx hlen _
  have hl := Engine.leads_scan_full s.profile (e := s.eng.queued n) [] hctx
  have hn : (s.eng.queued n).board.queue.length + 2 ≤ 1000 := by
    have : (s.eng.queued n).board.queue.length = s.eng.board.queue.length + 1 := s.eng.queueWith_length n
    omega
  exact exec_post_leads hs ha hfree hok hk hl hn hc.1 hc.2

/-! ## What a CLEAR does to each block -/

/-- Bit `k` of the first `n` positions. -/
theorem hasPos_firstPositions (n : Nat) (q : Position) : hasPos (firstPositions n) q = decide (q.val < n) := by
  have hq := q.isLt
  simp only [hasPos, firstPositions, BitVec.getLsbD_ofNat, Nat.testBit_two_pow_sub_one, hq, decide_true, Bool.true_and]

theorem mem_allPositions (q : Position) : q ∈ allPositions := by revert q; decide

theorem mem_positionsOf {s : PosSet} {q : Position} : q ∈ positionsOf s ↔ s.getLsbD q.val = true := by
  simp [positionsOf, mem_allPositions, hasPos]

/-- A cell record whose sticky flags and misses are cleared (R75). -/
def Cell.cleared (x : Cell) : Cell := { x with flags := 0, misses := 0 }

theorem Engine.cell_putCell_same (e : Engine) (g : StringId) (q : Position) (x : Cell) :
    (e.putCell g q x).cell g q = x := by
  simp only [Engine.cell, Engine.putCell]
  rw [get_set_same, get_set_same]

theorem Engine.cell_putCell_other (e : Engine) {g h : StringId} {q j : Position} (x : Cell) (hne : ¬ (h = g ∧ j = q)) :
    (e.putCell g q x).cell h j = e.cell h j := by
  simp only [Engine.cell, Engine.putCell]
  by_cases hg : h = g
  · subst hg
    rw [get_set_same, get_set_other _ _ fun hj => hne ⟨rfl, hj⟩]
  · rw [get_set_other _ _ hg]

/-- Cells of one string cleared one after another: those, and no other cell. -/
theorem Engine.cell_clearPositions (g h : StringId) (j : Position) (l : List Position) (e : Engine) :
    (l.foldl (fun e q => e.putCell g q (e.cell g q).cleared) e).cell h j
      = if h = g ∧ j ∈ l then (e.cell h j).cleared else e.cell h j := by
  induction l generalizing e with
  | nil => simp
  | cons q l ih =>
    rw [List.foldl_cons, ih]
    by_cases hq : h = g ∧ j = q
    · obtain ⟨rfl, rfl⟩ := hq
      rw [Engine.cell_putCell_same]
      simp [Cell.cleared]
    · rw [e.cell_putCell_other _ hq]
      have : (h = g ∧ j ∈ q :: l) ↔ (h = g ∧ j ∈ l) := by
        rw [List.mem_cons]; tauto
      simp only [this]

/-- CLEAR with CELL_FLAGS: the named positions below cells-fitted of one string (R75). -/
theorem Engine.cell_clearCells (e : Engine) (p : Profile) (y : Slot) (g h : StringId) (j : Position) :
    (e.clearCells p y g).cell h j
      = if h = g ∧ j.val < cellsFitted p g ∧ (clearPositions y).getLsbD j.val = true then (e.cell h j).cleared
        else e.cell h j := by
  have hm : j ∈ positionsOf (clearPositions y &&& firstPositions (cellsFitted p g))
      ↔ j.val < cellsFitted p g ∧ (clearPositions y).getLsbD j.val = true := by
    have := hasPos_firstPositions (cellsFitted p g) j
    rw [hasPos] at this
    rw [mem_positionsOf, BitVec.getLsbD_and, this, Bool.and_eq_true, decide_eq_true_eq, and_comm]
  refine (Engine.cell_clearPositions g h j _ e).trans ?_
  simp only [hm]

/-- CLEAR with CELL_FLAGS over its strings. -/
theorem Engine.cell_clearStrings (p : Profile) (y : Slot) (h : StringId) (j : Position) (l : List StringId) (e : Engine) :
    (l.foldl (fun e g => e.clearCells p y g) e).cell h j
      = if h ∈ l ∧ j.val < cellsFitted p h ∧ (clearPositions y).getLsbD j.val = true then (e.cell h j).cleared
        else e.cell h j := by
  induction l generalizing e with
  | nil => simp
  | cons g l ih =>
    rw [List.foldl_cons, ih, Engine.cell_clearCells]
    by_cases hg : h = g
    · subst hg
      by_cases hj : j.val < cellsFitted p h ∧ (clearPositions y).getLsbD j.val = true
      · simp [hj, Cell.cleared]
      · simp only [hj, and_false, if_false]
    · simp [hg]

/-- CLEAR with CELL_FLAGS changes the cell table alone. -/
theorem Engine.clearStrings_rest (p : Profile) (y : Slot) (l : List StringId) (e : Engine) :
    ∃ v, l.foldl (fun e g => e.clearCells p y g) e = { e with cells := v } := by
  have hone (g : StringId) (qs : List Position) (e : Engine) :
      ∃ v, qs.foldl (fun e q => e.putCell g q (e.cell g q).cleared) e = { e with cells := v } := by
    induction qs generalizing e with
    | nil => exact ⟨_, rfl⟩
    | cons q qs ih =>
      obtain ⟨v, hv⟩ := ih (e.putCell g q (e.cell g q).cleared)
      exact ⟨v, hv⟩
  induction l generalizing e with
  | nil => exact ⟨_, rfl⟩
  | cons g l ih =>
    obtain ⟨v, hv⟩ := hone g (positionsOf (clearPositions y &&& firstPositions (cellsFitted p g))) e
    obtain ⟨u, hu⟩ := ih (e.clearCells p y g)
    refine ⟨u, ?_⟩
    rw [List.foldl_cons, hu, show e.clearCells p y g = { e with cells := v } from hv]

/-- Some strings' records changed one after another. -/
def modRecords (f : StringId → StringRec → StringRec) (l : List StringId) (v : Vector StringRec 8) : Vector StringRec 8 :=
  l.foldl (fun (v : Vector StringRec 8) (g : StringId) => v.set g (f g (v.get g))) v

/-- Each once: those, and no other record. -/
theorem get_modRecords (f : StringId → StringRec → StringRec) {l : List StringId} (hl : l.Nodup)
    (v : Vector StringRec 8) (h : StringId) :
    (modRecords f l v).get h = if h ∈ l then f h (v.get h) else v.get h := by
  unfold modRecords
  induction l generalizing v with
  | nil => simp
  | cons g l ih =>
    obtain ⟨hg, hl⟩ := List.nodup_cons.mp hl
    rw [List.foldl_cons, ih hl]
    by_cases hhg : h = g
    · subst hhg
      rw [get_set_same]
      simp [hg]
    · rw [get_set_other _ _ hhg]
      simp [hhg]

theorem Engine.modStrings_eq (f : StringId → StringRec → StringRec) (l : List StringId) (e : Engine) :
    l.foldl (fun e g => e.modStr g (f g)) e = { e with strings := modRecords f l e.strings } := by
  induction l generalizing e with
  | nil => rfl
  | cons g l ih => exact ih _

theorem nodup_stringsOf (m : StringMask) : (stringsOf m).Nodup := List.Nodup.filter _ (by decide)

/-- The path once a CLEAR with WATER_FAULT has been carried out (R145). -/
def Engine.clearedWater (e : Engine) : Water :=
  if e.water.state = .faulted then
    { e.water with
      idle := 0,
      state := if (latestLines e.latest).resEmpty = true then .empty else if e.claims.water = none then .ready else .busy }
  else e.water

theorem Engine.clearWater_eq (e : Engine) : e.clearWater = { e with water := e.clearedWater } := by
  unfold Engine.clearWater Engine.clearedWater
  split
  · cases e.claims.water <;> simp
  · rfl

theorem Engine.clearedWater_scoped (e : Engine) (c : Prop) [Decidable c] :
    (if c then e.clearedWater else e.water) =
      if c ∧ e.water.state = .faulted then
        { e.water with
          idle := 0,
          state := if (latestLines e.latest).resEmpty = true then .empty
            else if e.claims.water = none then .ready else .busy }
      else e.water := by
  by_cases hc : c
  · simp only [hc, if_true, true_and, Engine.clearedWater]
  · simp only [hc, if_false, false_and]

/-- The blocks once the scopes of a CLEAR have been carried out: each scope in the block that owns the state (R11). -/
theorem Engine.clearScopes_eq (e : Engine) (p : Profile) (y : Slot) :
    ∃ cs ss, e.clearScopes p y = { e with
        cells := cs, strings := ss,
        water := if scopeWater y = true then e.clearedWater else e.water,
        line := if scopeLine y = true then { e.line with faultCount := 0, strayCount := 0 } else e.line }
      ∧ (∀ (g : StringId) (q : Position), (cs.get g).get q =
          if scopeCells y = true ∧ (orderMask y).getLsbD g.val = true ∧ q.val < cellsFitted p g
              ∧ (clearPositions y).getLsbD q.val = true then (e.cell g q).cleared else e.cell g q)
      ∧ ∀ g : StringId, ss.get g =
          if scopeStrings y = true ∧ (orderMask y).getLsbD g.val = true then (e.str g).clear else e.str g := by
  obtain ⟨cs, hcs⟩ := Engine.clearStrings_rest p y (stringsOf (orderMask y)) e
  have hcells (g : StringId) (q : Position) := Engine.cell_clearStrings p y g q (stringsOf (orderMask y)) e
  simp only [hcs, mem_stringsOf] at hcells
  let ss := modRecords (fun _ => StringRec.clear) (stringsOf (orderMask y)) e.strings
  have hstrs (g : StringId) := get_modRecords (fun _ => StringRec.clear) (nodup_stringsOf (orderMask y)) e.strings g
  simp only [mem_stringsOf] at hstrs
  refine ⟨if scopeCells y = true then cs else e.cells, if scopeStrings y = true then ss else e.strings, ?_, ?_, ?_⟩
  · have h1 : (if scopeCells y then (stringsOf (orderMask y)).foldl (fun e g => e.clearCells p y g) e else e)
        = { e with cells := if scopeCells y = true then cs else e.cells } := by
      rw [hcs]; split <;> rfl
    have h2 (e : Engine) : (if scopeStrings y then
          (stringsOf (orderMask y)).foldl (fun e g => e.modStr g StringRec.clear) e else e)
        = { e with strings := if scopeStrings y = true then
              modRecords (fun _ => StringRec.clear) (stringsOf (orderMask y)) e.strings else e.strings } := by
      rw [Engine.modStrings_eq fun _ => StringRec.clear]; split <;> rfl
    have h3 (e : Engine) : (if scopeWater y then e.clearWater else e)
        = { e with water := if scopeWater y = true then e.clearedWater else e.water } := by
      rw [Engine.clearWater_eq]; split <;> rfl
    have h4 (e : Engine) : (if scopeLine y then e.modLine fun l => { l with faultCount := 0, strayCount := 0 } else e)
        = { e with line := if scopeLine y = true then { e.line with faultCount := 0, strayCount := 0 } else e.line } := by
      split <;> rfl
    simp only [Engine.clearScopes, h1, h2, h3, h4]
    rfl
  · intro g q
    cases scopeCells y
    · simp [Engine.cell]
    · simp only [true_and, if_true]
      exact hcells g q
  · intro g
    cases scopeStrings y
    · simp [Engine.str]
    · simp only [true_and, if_true]
      exact hstrs g

/-- A CLEAR that is executed with no order waiting: its scopes, the slot settled, and SETTLED handed (R11). -/
theorem Engine.leads_executeClear (p : Profile) {e : Engine} {n : SlotId} (hq : e.board.queue = []) :
    (e.executeClear p n).Leads p 1
      (((e.clearScopes p (e.slot n)).modSlot n fun y => y.clearDone e.clock).raise .settled) := by
  obtain ⟨cs, ss, hscopes, -, -⟩ := e.clearScopes_eq p (e.slot n)
  have hclock : (e.clearScopes p (e.slot n)).clock = e.clock := by rw [hscopes]
  have hqueue : (((e.clearScopes p (e.slot n)).modSlot n fun y => y.clearDone e.clock).raise .settled).board.queue = [] := by
    rw [hscopes]; exact hq
  have hl := Engine.leads_scan_empty p [] hqueue
  simpa only [Engine.executeClear, hclock, Engine.hand_nil] using hl

/-- Settles O28: the scopes block by block, then the slot. -/
theorem clearIsCarriedOut : Obligations.ClearIsCarriedOut := by
  unfold Obligations.ClearIsCarriedOut
  intro s a n hs hc ha hfree hok hk hq
  dsimp only
  have hreq := (Engine.markRequest_post s.profile hfree).trans (congrArg some (Engine.post_clear hok hk))
  have hl := Engine.leads_executeClear s.profile (n := n) hq
  obtain ⟨cs, ss, hscopes, hcells, hstrs⟩ := s.eng.clearScopes_eq s.profile (s.eng.slot n)
  rw [hscopes] at hl
  have halert : (s.eng.raised ++ [Event.settled]).foldl Alert.capture s.alert = s.alert.capture .settled := by
    rw [hc.2]; rfl
  exact ⟨_, exec_mark_leads (sends_post _) hs ha hreq hl (by decide) hc.1, get_set_same _ _ _, halert, rfl, rfl, hcells,
    hstrs, Engine.clearedWater_scoped _ _, rfl, rfl, rfl⟩

end Sys2Proof.Machine
end

section
/-! SUPPORT. A dispatch of the one queued order, and the round that begins with it (R14 to R16, R29). -/

namespace Sys2Proof.Machine

/-! ## Finding the lowest string and the lowest context -/

theorem allStrings_split (g : StringId) :
    allStrings = allStrings.take g.val ++ g :: allStrings.drop (g.val + 1) ∧ ∀ k ∈ allStrings.take g.val, k < g := by
  revert g; decide

/-- The first string that passes a test. -/
theorem find?_allStrings {f : StringId → Bool} {g : StringId} (hg : f g = true) (hmin : ∀ k < g, f k = false) :
    allStrings.find? f = some g := by
  obtain ⟨hsplit, hlow⟩ := allStrings_split g
  rw [List.find?_eq_some_iff_append]
  exact ⟨hg, _, _, hsplit, fun k hk => by simp [hmin k (hlow k hk)]⟩

theorem lowestString_eq {m : StringMask} {g : StringId} (hg : m.getLsbD g.val = true)
    (hmin : ∀ k : StringId, k < g → m.getLsbD k.val = false) : lowestString m = some g :=
  find?_allStrings hg hmin

theorem Engine.freeCtx_idle {e : Engine} (h : ∀ c, e.ctx c = none) : e.freeCtx = some 0 := by
  simp [Engine.freeCtx, allCtxs, h]

/-! ## The dispatch of the one queued order (R16, R17) -/

/-- The blocks as the dispatch of the one queued order leaves them. -/
def Engine.dispatched (e : Engine) (c : CtxId) (n : SlotId) (k : Kind) : Engine :=
  { e.takeClaims c (e.slot n) with
    ctxs := e.ctxs.set c (some (freshRound (e.slot n) n k e.clock))
    board := { e.board with
      slots := e.board.slots.set n ((e.slot n).dispatch e.clock)
      queue := []
      favoured := if e.board.favoured = some n then none else e.board.favoured } }

/-- With no entry left and none to choose, favour stays as it is. -/
theorem Engine.refavour_empty {e : Engine} (hq : e.board.queue = []) : e.refavour = e := by
  unfold Engine.refavour
  split
  · rfl
  · rename_i hf
    simp only [Engine.modBoard, hq, List.find?_nil]
    rw [← hf, ← hq]

theorem Engine.dispatch_single {e : Engine} {c : CtxId} {n : SlotId} (k : Kind) (hq : e.board.queue = [n]) :
    e.dispatch c n k = e.dispatched c n k := by
  have hbefore : e.board.queue.takeWhile (fun m => m != n) = [] := by simp [hq]
  have hleft : (((e.takeClaims c (e.slot n)).putRound c (freshRound (e.slot n) n k e.clock)).modSlot n
      fun x => x.dispatch e.clock).leaveQueue n = e.dispatched c n k := by
    have hempty : e.board.queue.filter (fun m => m != n) = [] := by simp [hq]
    rw [Engine.leaveQueue, Engine.refavour_empty (by exact hempty)]
    simp only [Engine.modBoard, Engine.dispatched]
    rw [← hempty]
    rfl
  have hdispatch : e.dispatch c n k = ((((e.takeClaims c (e.slot n)).putRound c
      (freshRound (e.slot n) n k e.clock)).modSlot n fun x => x.dispatch e.clock).leaveQueue n).countPassed
        (e.board.queue.takeWhile fun m => m != n) := rfl
  rw [hdispatch, hleft, hbefore]
  exact Engine.refavour_empty rfl

/-- The one queued order is favoured or none before it is: favour allows it to start (R18). -/
theorem Engine.favourAllows_single {e : Engine} {n : SlotId} (hq : e.board.queue = [n]) : e.favourAllows n = true := by
  unfold Engine.favourAllows
  split
  · rfl
  · simp [hq]

/-- A scan starts the one queued order whose needs are met. -/
theorem Engine.leads_scan_starts (p : Profile) {e : Engine} {c : CtxId} {n : SlotId} {k : Kind} (ws : List Work)
    (hq : e.board.queue = [n]) (hm : (e.slot n).mark = .queued) (hf : e.freeCtx = some c)
    (hk : orderKind (e.slot n) = some k) (hn : e.needsMet p n = true) :
    (e.hand (.scan :: ws)).Leads p 2 ((e.dispatched c n k).hand
      (([.beginRound c n, .walk []] ++ if usesWater (e.slot n) then [.scan] else []) ++ ws)) := by
  have hscan := Engine.leads_scan p (e := e) ws (by simp [hq])
  rw [hq] at hscan
  refine hscan.trans (.step ?_ (.refl p _))
  have hneeds : (e.hand ws).needsMet p n = true := hn
  have hallow : (e.hand ws).favourAllows n = true := Engine.favourAllows_single hq
  have hd : (e.hand ws).dispatch c n k = (e.dispatched c n k).hand ws := Engine.dispatch_single k hq
  simp only [Engine.work, Engine.walkOne, Engine.hand_freeCtx, Engine.hand_slot, hf, hk, hm, hneeds, hallow, hd, and_self,
    if_true, Engine.hand_hand]
  rfl

/-- The round of the one queued order begins, and the scans that follow find no order. -/
theorem Engine.leads_start {p : Profile} {e : Engine} {c : CtxId} {n : SlotId} {k : Kind} {t : Engine}
    (hq : e.board.queue = [n]) (hm : (e.slot n).mark = .queued) (hf : e.freeCtx = some c)
    (hk : orderKind (e.slot n) = some k) (hn : e.needsMet p n = true)
    (hbegin : ∀ ws, ((e.dispatched c n k).hand ws).beginRound p c (freshRound (e.slot n) n k e.clock) = t.hand ws)
    (ht : t.board.queue = []) : (e.hand [.scan]).Leads p 5 t := by
  let ws : List Work := .walk [] :: ((if usesWater (e.slot n) then [.scan] else []) ++ [])
  refine (Engine.leads_scan_starts p [] hq hm hf hk hn).trans (n := 3) (.step (f := t.hand ws) ?_ ?_)
  · rw [← hbegin]
    have hctx : (e.dispatched c n k).ctx c = some (freshRound (e.slot n) n k e.clock) := get_set_same _ _ _
    simp only [Engine.work, Engine.withRound, Engine.hand_ctx, hctx]
    exact if_pos rfl
  · refine (Engine.leads_walk_nil p t _).trans (n := 1) ?_
    split
    · exact Engine.leads_scan_empty p [] ht
    · exact (Engine.Leads.refl p t).mono (Nat.zero_le 1)

/-! ## Requests (R47) -/

/-- On a WAKING line a request is listed behind the others. -/
theorem Engine.requestSweep_waking {e : Engine} (p : Profile) (c : CtxId) (n : SlotId) (m : StringMask) (u : Purpose)
    (h : e.line.state = .waking) :
    e.requestSweep p c n m u
      = { e with line := { e.line with list := e.line.list ++ [{ ctx := c, slot := n, mask := m, purpose := u }] } } := by
  unfold Engine.requestSweep
  split
  case h_4 => rfl
  all_goals
    rename_i hl
    exact absurd (h.symm.trans hl) (by decide)

/-- A context with its round replaced and its request listed. -/
def Engine.withRequest (e : Engine) (c : CtxId) (r : Round) (m : StringMask) (u : Purpose) : Engine :=
  { e.putRound c r with
    line := { e.line with list := e.line.list ++ [{ ctx := c, slot := r.slot, mask := m, purpose := u }] } }

theorem Engine.putRound_requestSweep {e : Engine} (p : Profile) (c : CtxId) (r : Round) (m : StringMask) (u : Purpose)
    (h : e.line.state = .waking) : (e.putRound c r).requestSweep p c r.slot m u = e.withRequest c r m u :=
  Engine.requestSweep_waking p c r.slot m u h

/-! ## A SURVEY begins (R79, R80) -/

theorem Engine.beginRound_survey {e : Engine} {p : Profile} {c : CtxId} {r : Round} (hk : r.kind = .survey)
    (hr : isRecount (e.slot r.slot) = false) (hl : e.line.state = .waking) :
    e.beginRound p c r
      = e.withRequest c (r.enter .sweeping e.clock) (orderMask (e.slot r.slot)) .survey := by
  simp only [Engine.beginRound, hk, hr]
  exact Engine.putRound_requestSweep p c (r.enter .sweeping e.clock) _ _ hl

/-- A RECOUNT survey's strings as it enters CENSUS (R80). -/
def provisional (m : StringMask) (v : Vector StringRec 8) : Vector StringRec 8 :=
  modRecords (fun _ x => { x with census := .provisional, censusSet := 0 }) (stringsOf m) v

theorem Engine.beginRound_recount {e : Engine} {p : Profile} {c : CtxId} {r : Round} (hk : r.kind = .survey)
    (hr : isRecount (e.slot r.slot) = true) (hl : e.line.state = .waking) :
    e.beginRound p c r
      = { e.withRequest c (r.enter .census e.clock) (orderMask (e.slot r.slot)) .census with
          strings := provisional (orderMask (e.slot r.slot)) e.strings } := by
  have hfold : (stringsOf (orderMask (e.slot r.slot))).foldl (fun e g => e.putCensus g .provisional 0) e
      = { e with strings := provisional (orderMask (e.slot r.slot)) e.strings } :=
    Engine.modStrings_eq (fun _ x => { x with census := .provisional, censusSet := 0 }) _ e
  simp only [Engine.beginRound, hk, hr, Engine.enterCensus, hfold]
  exact Engine.putRound_requestSweep p c (r.enter .census e.clock) _ _ hl

/-! ## The blocks once an order has been queued on an idle board -/

theorem Engine.queued_slot (e : Engine) (n : SlotId) :
    (e.queued n).slot n = (e.slot n).queue e.board.nextSeq e.clock := get_set_same _ _ _

theorem Engine.queued_queue {e : Engine} (n : SlotId) (hq : e.board.queue = []) : (e.queued n).board.queue = [n] :=
  e.queueWith_empty n hq

/-- The slot of an order that has been queued and dispatched, and the other slots. -/
theorem Engine.queued_dispatched_slot (e : Engine) (n : SlotId) (c : CtxId) (k : Kind) :
    ((e.queued n).dispatched c n k).slot n = ((e.slot n).queue e.board.nextSeq e.clock).dispatch e.clock := by
  refine (get_set_same _ _ _).trans ?_
  rw [Engine.queued_slot]
  rfl

theorem Engine.queued_dispatched_slot_other (e : Engine) {n m : SlotId} (c : CtxId) (k : Kind) (h : m ≠ n) :
    ((e.queued n).dispatched c n k).slot m = e.slot m :=
  (get_set_other _ _ h).trans (get_set_other _ _ h)

end Sys2Proof.Machine
end

section
/-! SUPPORT. POST of an order that starts at once; SURVEY (R79, R80). -/

namespace Sys2Proof.Machine

/-! ## A POST that starts its order -/

/-- POST of a sound order whose needs are met on an idle part with no order waiting: the round that begins is all that
follows. -/
theorem exec_post_starts {s : State} {a : BitVec 16} {n : SlotId} {k : Kind} {t : Engine} (hs : s.linkUp)
    (ha : low13 a = 0x0100 + 64 * n.val) (hfree : (s.eng.slot n).mark = .free)
    (hok : s.eng.refusal s.profile (s.eng.slot n) = none) (hu : s.unburdened)
    (hk : orderKind (s.eng.slot n) = some k) (hn : (s.eng.queued n).needsMet s.profile n = true)
    (hbegin : ∀ ws, (((s.eng.queued n).dispatched 0 n k).hand ws).beginRound s.profile 0
      (freshRound (s.eng.slot n) n k s.eng.clock) = t.hand ws)
    (ht : t.board.queue = []) (hw : t.agenda = []) (hr : t.raised = []) :
    exec (.post ⟨a, [0x01]⟩) s = .next { (s.echo a).ended false with eng := t } := by
  have hcode : orderCode (s.eng.slot n) ≠ 5 := by
    intro h5
    simp [orderKind, h5] at hk
  have hslot := s.eng.queued_slot n
  have hm : ((s.eng.queued n).slot n).mark = .queued := by rw [hslot]; rfl
  have hk' : orderKind ((s.eng.queued n).slot n) = some k := by rw [hslot]; exact hk
  have hl := Engine.leads_start (p := s.profile) (e := s.eng.queued n) (t := t) (s.eng.queued_queue n hu.1) hm
    (Engine.freeCtx_idle hu.2) hk' hn (by rw [hslot]; exact hbegin) ht
  exact exec_post_leads hs ha hfree hok hcode hl (by decide) hw hr

/-! ## SURVEY -/

theorem Engine.needsMet_survey {e : Engine} {n : SlotId} {c : CtxId} (p : Profile) (hf : e.freeCtx = some c)
    (hk : orderKind (e.slot n) = some .survey) (hl : e.line.state ≠ .faulted)
    (hr : isRecount (e.slot n) = true → ∀ g : StringId, (orderMask (e.slot n)).getLsbD g.val = true → e.owner g = none) :
    e.needsMet p n = true := by
  have hstrings : isRecount (e.slot n) = false ∨ everyString (e.slot n) (fun g => (e.owner g).isNone) = true := by
    cases h : isRecount (e.slot n) with
    | false => exact .inl rfl
    | true => exact .inr (everyString_iff.mpr fun g hg => by simp [hr h g hg])
  simp only [Engine.needsMet, hf, hk, Engine.lineUp]
  simpa [hl] using hstrings

/-- What a SURVEY takes: nothing but, with RECOUNT, its strings (R79, R80). -/
theorem takeClaims_survey (e : Engine) (c : CtxId) {y : Slot} (hk : orderKind y = some .survey) :
    (e.takeClaims c y).claims = { e.claims with
        strings := Vector.ofFn fun g => if hasString (claimedStrings y) g then some c else e.owner g }
      ∧ (e.takeClaims c y).water = e.water := by
  have hc : usesCharger y = false := by simp [usesCharger, hk]
  have hw : usesWater y = false := by simp [usesWater, thenWater, hk]
  simp [Engine.takeClaims, hc, hw]

theorem claimedStrings_survey {y : Slot} (hk : orderKind y = some .survey) :
    claimedStrings y = if isRecount y then orderMask y else 0 := by
  unfold claimedStrings
  cases isRecount y <;> simp [hk]

theorem ofFn_owner (e : Engine) : (Vector.ofFn fun g => e.owner g) = e.claims.strings := by
  ext i hi
  simp [Engine.owner, Vector.get]

/-- A SURVEY that starts takes no claim without RECOUNT, and each of its strings with it. -/
theorem survey_claims (e : Engine) (c : CtxId) {y : Slot} (hk : orderKind y = some .survey) :
    (isRecount y = false → (e.takeClaims c y).claims = e.claims)
      ∧ (isRecount y = true → ∀ g, (e.takeClaims c y).owner g
          = if (orderMask y).getLsbD g.val = true then some c else e.owner g) := by
  have hclaims := (takeClaims_survey e c hk).1
  rw [claimedStrings_survey hk] at hclaims
  constructor
  · intro hr
    rw [hclaims, hr]
    have hnone (g : StringId) : hasString 0 g = false := by simp [hasString]
    simp only [Bool.false_eq_true, if_false, hnone, ofFn_owner]
  · intro hr g
    simp only [Engine.owner, hclaims, hr, if_true]
    exact get_ofFn _ g

theorem get_provisional (m : StringMask) (v : Vector StringRec 8) (g : StringId) :
    (provisional m v).get g
      = if m.getLsbD g.val = true then { v.get g with census := .provisional, censusSet := 0 } else v.get g := by
  unfold provisional
  rw [get_modRecords _ (nodup_stringsOf m)]
  simp only [mem_stringsOf]

@[simp] theorem freshRound_slot (y : Slot) (n : SlotId) (k : Kind) (now : Clock) : (freshRound y n k now).slot = n := rfl
@[simp] theorem freshRound_kind (y : Slot) (n : SlotId) (k : Kind) (now : Clock) : (freshRound y n k now).kind = k := rfl
@[simp] theorem Engine.dispatched_line (e : Engine) (c : CtxId) (n : SlotId) (k : Kind) :
    (e.dispatched c n k).line = e.line := rfl
@[simp] theorem Engine.dispatched_clock (e : Engine) (c : CtxId) (n : SlotId) (k : Kind) :
    (e.dispatched c n k).clock = e.clock := rfl
@[simp] theorem Engine.dispatched_strings (e : Engine) (c : CtxId) (n : SlotId) (k : Kind) :
    (e.dispatched c n k).strings = e.strings := rfl
@[simp] theorem Engine.queued_line (e : Engine) (n : SlotId) : (e.queued n).line = e.line := rfl
@[simp] theorem Engine.queued_clock (e : Engine) (n : SlotId) : (e.queued n).clock = e.clock := rfl
@[simp] theorem Engine.queued_strings (e : Engine) (n : SlotId) : (e.queued n).strings = e.strings := rfl

theorem Engine.hand_withRequest (e : Engine) (ws : List Work) (c : CtxId) (r : Round) (m : StringMask) (u : Purpose) :
    (e.hand ws).withRequest c r m u = (e.withRequest c r m u).hand ws := rfl

/-- POST of a SURVEY on an idle part with its line WAKING: the blocks as the round leaves them. -/
def Engine.surveyed (e : Engine) (n : SlotId) (ph : Phase) (u : Purpose) : Engine :=
  ((e.queued n).dispatched 0 n .survey).withRequest 0 ((freshRound (e.slot n) n .survey e.clock).enter ph e.clock)
    (orderMask (e.slot n)) u

theorem exec_post_survey {s : State} {a : BitVec 16} {n : SlotId} (hs : s.linkUp) (hc : s.calm)
    (ha : low13 a = 0x0100 + 64 * n.val) (hfree : (s.eng.slot n).mark = .free)
    (hok : s.eng.refusal s.profile (s.eng.slot n) = none) (hu : s.unburdened) (hl : s.eng.line.state = .waking)
    (hk : orderKind (s.eng.slot n) = some .survey) :
    (isRecount (s.eng.slot n) = false → exec (.post ⟨a, [0x01]⟩) s = .next
      { (s.echo a).ended false with eng := s.eng.surveyed n .sweeping .survey })
    ∧ (isRecount (s.eng.slot n) = true →
        (∀ g : StringId, (orderMask (s.eng.slot n)).getLsbD g.val = true → s.eng.owner g = none) →
        exec (.post ⟨a, [0x01]⟩) s = .next { (s.echo a).ended false with
          eng := { s.eng.surveyed n .census .census with
            strings := provisional (orderMask (s.eng.slot n)) s.eng.strings } }) := by
  have hqslot := s.eng.queued_slot n
  have hdslot := s.eng.queued_dispatched_slot n 0 .survey
  have hkind : orderKind ((s.eng.queued n).slot n) = some .survey := by rw [hqslot]; exact hk
  have hrecount : isRecount ((s.eng.queued n).slot n) = isRecount (s.eng.slot n) := by rw [hqslot]; rfl
  have hmask : orderMask ((s.eng.queued n).slot n) = orderMask (s.eng.slot n) := by rw [hqslot]; rfl
  have hneeds := Engine.needsMet_survey (e := s.eng.queued n) (n := n) s.profile (Engine.freeCtx_idle hu.2) hkind
    (by rw [show (s.eng.queued n).line.state = .waking from hl]; decide)
  rw [hrecount, hmask] at hneeds
  have hdrecount : isRecount (((s.eng.queued n).dispatched 0 n .survey).slot n) = isRecount (s.eng.slot n) := by
    rw [hdslot]; rfl
  have hdmask : orderMask (((s.eng.queued n).dispatched 0 n .survey).slot n) = orderMask (s.eng.slot n) := by
    rw [hdslot]; rfl
  constructor
  · intro hr
    refine exec_post_starts hs ha hfree hok hu hk (hneeds fun h => absurd (hr.symm.trans h) (by decide)) (fun ws => ?_)
      rfl hc.1 hc.2
    have hbegin := Engine.beginRound_survey (e := ((s.eng.queued n).dispatched 0 n .survey).hand ws) (p := s.profile)
      (c := 0) (r := freshRound (s.eng.slot n) n .survey s.eng.clock) rfl
    simp only [Engine.hand_slot, freshRound_slot, hdrecount, hdmask, Engine.hand_line, Engine.dispatched_line,
      Engine.queued_line, Engine.hand_withRequest, Engine.hand_clock, Engine.dispatched_clock, Engine.queued_clock] at hbegin
    exact hbegin hr hl
  · intro hr hown
    refine exec_post_starts hs ha hfree hok hu hk (hneeds fun _ => hown) (fun ws => ?_) rfl hc.1 hc.2
    have hbegin := Engine.beginRound_recount (e := ((s.eng.queued n).dispatched 0 n .survey).hand ws) (p := s.profile)
      (c := 0) (r := freshRound (s.eng.slot n) n .survey s.eng.clock) rfl
    simp only [Engine.hand_slot, freshRound_slot, hdrecount, hdmask, Engine.hand_line, Engine.dispatched_line,
      Engine.queued_line, Engine.hand_withRequest, Engine.hand_clock, Engine.dispatched_clock, Engine.queued_clock,
      Engine.hand_strings, Engine.dispatched_strings, Engine.queued_strings] at hbegin
    exact hbegin hr hl

end Sys2Proof.Machine
end

section
/-! SUPPORT. A CENSUS sweep's completion (R78, R81), and what SURVEY orders do. -/

namespace Sys2Proof.Machine

/-! ## Masks made string by string -/

theorem getLsbD_maskOf (f : StringId → Bool) (g : StringId) : (maskOf f).getLsbD g.val = f g := by
  rw [Bool.eq_iff_iff]
  refine (getLsbD_foldl_bits (fun k : StringId => k.val) (fun k => f k = true) allStrings (0 : BitVec 8) g.isLt).trans ?_
  constructor
  · rintro (h | ⟨k, -, hk, h⟩)
    · exact absurd h (by simp)
    · rwa [← Fin.ext hk]
  · exact fun h => .inr ⟨g, mem_allStrings g, rfl, h⟩

theorem mask_eq_zero {m : StringMask} : m = 0 ↔ ∀ g : StringId, m.getLsbD g.val = false := by
  constructor
  · rintro rfl g
    simp
  · intro h
    exact BitVec.eq_of_getLsbD_eq fun i hi => by simpa using h ⟨i, hi⟩

theorem undecided_eq_zero (r : Round) : undecided r = 0 ↔ ∀ g : StringId, r.primary.get g ≠ .inProgress := by
  simp only [mask_eq_zero, undecided, getLsbD_maskOf, beq_eq_false_iff_ne]

/-! ## What a request leaves (R47) -/

theorem Engine.startSweep_ctxs (e : Engine) (p : Profile) :
    (e.startSweep p).ctxs = e.ctxs ∧ (e.startSweep p).strings = e.strings := by
  unfold Engine.startSweep
  split
  · exact ⟨rfl, rfl⟩
  · dsimp only
    split <;> exact ⟨rfl, rfl⟩

/-- A request changes no context and no string's record. -/
theorem Engine.requestSweep_ctxs (e : Engine) (p : Profile) (c : CtxId) (n : SlotId) (m : StringMask) (u : Purpose) :
    (e.requestSweep p c n m u).ctxs = e.ctxs ∧ (e.requestSweep p c n m u).strings = e.strings := by
  unfold Engine.requestSweep
  dsimp only
  split
  case h_5 =>
    split
    · exact Engine.startSweep_ctxs _ p
    · exact ⟨rfl, rfl⟩
  all_goals exact ⟨rfl, rfl⟩

/-! ## One string of a CENSUS sweep (R78, R81) -/

/-- How a string of a CENSUS sweep closes, if it does: its census and its outcome, by the set it had, the positions that
replied, and how many sweeps there have been. -/
def censusEnd (limit sweeps : Nat) (had got : PosSet) : Option (Census × Outcome) :=
  if sweeps = 1 then none
  else if got = had ∧ got ≠ 0 then some (.established, .censusEstablished)
  else if limit ≤ sweeps then some (.unstable, .censusUnstable) else none

/-- A string's record after a CENSUS sweep. -/
def StringRec.swept (x : StringRec) (fitted limit sweeps : Nat) (got : PosSet) : StringRec :=
  { x with
    censusSet := got
    census := match censusEnd limit sweeps x.censusSet got with
      | some z => z.1
      | none => .provisional
    flags := if posCount got < fitted ∧ (censusEnd limit sweeps x.censusSet got).map Prod.fst = some .established then
        x.flags ||| sfShortCensus
      else x.flags }

/-- A string's outcome after a CENSUS sweep, from the outcome it had. -/
def censusOutcome (limit sweeps : Nat) (had got : PosSet) (o : Outcome) : Outcome :=
  match censusEnd limit sweeps had got with
  | some z => z.2
  | none => o

theorem set_get_same {α : Type} {n : Nat} (v : Vector α n) (i : Fin n) : v.set i (v.get i) = v := by
  show v.set i v[i.val] = v
  simp

theorem Engine.putStr_putStr (e : Engine) (g : StringId) (x y : StringRec) : (e.putStr g x).putStr g y = e.putStr g y := by
  simp [Engine.putStr]

/-- What one string of a CENSUS sweep changes: its outcome and its record. -/
theorem Engine.censusString_eq (e : Engine) (p : Profile) (limit : Nat) {r : Round} (g : StringId) (got : PosSet)
    (hw : r.inWatering = false) :
    ∃ ws, e.censusString p limit r g got =
      ({ r with
          primary := r.primary.set g (censusOutcome limit r.sweepsIssued (e.str g).censusSet got (r.primary.get g)) },
        e.putStr g ((e.str g).swept (cellsFitted p g) limit r.sweepsIssued got), ws) := by
  have hput (o : Outcome) : r.putOutcome g o = { r with primary := r.primary.set g o } := by
    simp [Round.putOutcome, hw]
  unfold Engine.censusString StringRec.swept censusOutcome censusEnd
  split
  case isTrue => exact ⟨[], by simp [set_get_same, Engine.putCensus, Engine.modStr]⟩
  case isFalse =>
    split
    case isTrue h =>
      obtain ⟨rfl, -⟩ := h
      refine ⟨[], ?_⟩
      by_cases hshort : posCount (e.str g).censusSet < cellsFitted p g
      · simp [hput, hshort, Engine.putCensus, Engine.modStr, StringRec.setFlag, Engine.putStr_putStr]
      · simp [hput, hshort, Engine.putCensus, Engine.modStr]
    case isFalse =>
      split
      case isTrue => exact ⟨[.censusLost g], by simp [hput, Engine.putCensus, Engine.modStr]⟩
      case isFalse => exact ⟨[], by simp [set_get_same, Engine.putCensus, Engine.modStr]⟩

/-- The strings of a CENSUS sweep, each counted once: their outcomes and records, and nothing else. -/
theorem Engine.censusStrings_eq (p : Profile) (limit : Nat) (replied : AddrSet) {l : List StringId} (hl : l.Nodup)
    (r : Round) (e : Engine) (ws : List Work) (hw : r.inWatering = false) :
    ∃ os ss ws', Engine.censusStrings p limit replied l (r, e, ws) = ({ r with primary := os }, { e with strings := ss }, ws')
      ∧ (∀ g, os.get g = if g ∈ l then
            censusOutcome limit r.sweepsIssued (e.str g).censusSet (replied.get g) (r.primary.get g)
          else r.primary.get g)
      ∧ ∀ g, ss.get g = if g ∈ l then
            (e.str g).swept (cellsFitted p g) limit r.sweepsIssued (replied.get g)
          else e.str g := by
  induction l generalizing r e ws with
  | nil => exact ⟨r.primary, e.strings, ws, rfl, fun g => by simp, fun g => by simp [Engine.str]⟩
  | cons k l ih =>
    obtain ⟨hk, hl⟩ := List.nodup_cons.mp hl
    obtain ⟨vs, hone⟩ := e.censusString_eq p limit k (replied.get k) hw
    let o := censusOutcome limit r.sweepsIssued (e.str k).censusSet (replied.get k) (r.primary.get k)
    obtain ⟨os, ss, ws', hrest, hos, hss⟩ := ih hl { r with primary := r.primary.set k o }
      (e.putStr k ((e.str k).swept (cellsFitted p k) limit r.sweepsIssued (replied.get k))) (ws ++ vs) hw
    refine ⟨os, ss, ws', ?_, fun g => ?_, fun g => ?_⟩
    · rw [Engine.censusStrings, hone]
      exact hrest
    · rw [hos g]
      by_cases hg : g = k
      · subst hg
        rw [if_neg hk, if_pos List.mem_cons_self]
        exact get_set_same _ _ _
      · simp only [List.mem_cons, hg, false_or, e.str_putStr_other _ hg, get_set_other _ _ hg]
    · rw [hss g]
      by_cases hg : g = k
      · subst hg
        simp [hk]
      · simp only [List.mem_cons, hg, false_or, e.str_putStr_other _ hg]

/-! ## The completion (R81) -/

/-- A COMPLETE completion that its round awaits in CENSUS: the sweep is counted, and the strings are judged. -/
theorem Engine.completion_census {e : Engine} {p : Profile} {q : Request} {r : Round} {replied : AddrSet}
    (missing : AddrSet) (hr : e.ctx q.ctx = some r) (hslot : r.slot = q.slot) (hph : r.phase = .census)
    (hq : q.purpose = .census) :
    e.completion p q true replied missing = e.censusCompletion p q.ctx (r.countSweep true) q replied := by
  have hawaits : (Phase.census).awaits .census = true := rfl
  simp only [Engine.completion, Engine.withRound, hr, hslot, if_true, hph, hq, hawaits, Engine.countSettled,
    Engine.completeSweep]

/-- What a CENSUS completion leaves: the context's round with its outcomes, the strings' records, and the next request
where a string is undecided. -/
theorem Engine.censusCompletion_leaves (e : Engine) (p : Profile) (c : CtxId) (r : Round) (q : Request)
    (replied : AddrSet) (hw : r.inWatering = false) :
    ∃ os ss, (e.censusCompletion p c r q replied).ctx c = some { r with primary := os }
      ∧ (e.censusCompletion p c r q replied).strings = ss
      ∧ (∀ g, os.get g = if q.mask.getLsbD g.val = true then
            censusOutcome (sweepLimit (e.slot r.slot)) r.sweepsIssued (e.str g).censusSet (replied.get g) (r.primary.get g)
          else r.primary.get g)
      ∧ (∀ g, ss.get g = if q.mask.getLsbD g.val = true then
            (e.str g).swept (cellsFitted p g) (sweepLimit (e.slot r.slot)) r.sweepsIssued (replied.get g)
          else e.str g)
      ∧ (undecided { r with primary := os } ≠ 0 → e.line.state = .waking →
          (e.censusCompletion p c r q replied).line.list = e.line.list
            ++ [{ ctx := c, slot := r.slot, mask := undecided { r with primary := os }, purpose := .census }])
      ∧ (undecided { r with primary := os } = 0 → (e.censusCompletion p c r q replied).line = e.line) := by
  obtain ⟨os, ss, ws, hfold, hos, hss⟩ := Engine.censusStrings_eq p (sweepLimit (e.slot r.slot)) replied
    (nodup_stringsOf q.mask) r e [] hw
  simp only [mem_stringsOf] at hos hss
  let r' : Round := { r with primary := os }
  let e' : Engine := ({ e with strings := ss } : Engine).putRound c r'
  have hdone : e.censusCompletion p c r q replied
      = if undecided r' = 0 then e'.hand (ws ++ [.advance c r.slot])
        else (e'.requestSweep p c r.slot (undecided r') .census).hand ws := by
    simp only [Engine.censusCompletion, hfold]
    rfl
  have hctx : e'.ctx c = some r' := get_set_same _ _ _
  obtain ⟨hreq, hstr⟩ := e'.requestSweep_ctxs p c r.slot (undecided r') .census
  rw [hdone]
  by_cases hu : undecided r' = 0
  · rw [if_pos hu]
    exact ⟨os, ss, hctx, rfl, hos, hss, fun h => absurd hu h, fun _ => rfl⟩
  · rw [if_neg hu]
    refine ⟨os, ss, (congrArg (fun v => Vector.get v c) hreq).trans hctx, hstr, hos, hss, fun _ hl => ?_,
      fun h => absurd h hu⟩
    rw [Engine.requestSweep_waking (e := e') p c r.slot _ .census hl]
    rfl

/-! ## The statement -/

/-- What a POST of a SURVEY leaves, whatever its phase: the order RUNNING in C0, its request listed (R16, R29). -/
theorem Engine.surveyed_starts (e : Engine) {n : SlotId} (ph : Phase) (u : Purpose) :
    ((e.surveyed n ph u).slot n).mark = .running ∧ ((e.surveyed n ph u).slot n).result.started = e.clock
      ∧ (∃ r, (e.surveyed n ph u).ctx 0 = some r ∧ r.slot = n ∧ r.kind = .survey ∧ r.phase = ph
          ∧ r.phaseStart = e.clock ∧ r.cur = none ∧ r.remaining = 0 ∧ r.firstCause = none ∧ r.sweepsIssued = 0)
      ∧ ∀ k, k ≠ n → (e.surveyed n ph u).slot k = e.slot k := by
  have hslot : (e.surveyed n ph u).slot n = ((e.slot n).queue e.board.nextSeq e.clock).dispatch e.clock :=
    e.queued_dispatched_slot n 0 .survey
  refine ⟨by rw [hslot]; rfl, by rw [hslot]; rfl, ⟨_, get_set_same _ _ _, rfl, rfl, rfl, rfl, rfl, rfl, rfl, rfl⟩,
    fun k hk => e.queued_dispatched_slot_other 0 .survey hk⟩

/-- The sweep limit, written out (R80). -/
theorem sweepLimit_eq (y : Slot) : sweepLimit y =
    if (bodyByte y 7).toNat < 2 then 2 else if 4 < (bodyByte y 7).toNat then 4 else (bodyByte y 7).toNat := by
  simp only [sweepLimit, sweepCount]
  split_ifs <;> omega

theorem isRecount_survey {y : Slot} (hk : orderKind y = some .survey) : isRecount y = (bodyByte y 6).getLsbD 0 := by
  simp [isRecount, hk, bodyFlag]

/-- Settles O27: the POST by its RECOUNT flag, then the CENSUS completion string by string. -/
theorem surveyStartsAtOnce : Obligations.SurveyStartsAtOnce := by
  unfold Obligations.SurveyStartsAtOnce
  refine ⟨fun s a n hs hc ha hfree hok hcode hu _ hl => ?_, fun e p q r replied missing hr hslot hph hw hq => ?_⟩
  · have hk := orderKind_survey.mpr hcode
    have hrecount := isRecount_survey hk
    obtain ⟨hplain, hcount⟩ := exec_post_survey hs hc ha hfree hok hu hl hk
    obtain ⟨hclaims, howner⟩ := survey_claims (s.eng.queued n) 0 (y := (s.eng.queued n).slot n)
      (by rw [s.eng.queued_slot n]; exact hk)
    have hrecount' : isRecount ((s.eng.queued n).slot n) = isRecount (s.eng.slot n) := by rw [s.eng.queued_slot n]; rfl
    have hmask' : orderMask ((s.eng.queued n).slot n) = orderMask (s.eng.slot n) := by rw [s.eng.queued_slot n]; rfl
    dsimp only
    refine ⟨fun h6 => ?_, fun h6 hown => ?_⟩
    · have hr : isRecount (s.eng.slot n) = false := by rw [hrecount, h6]; rfl
      obtain ⟨hmark, hstart, hround, hother⟩ := s.eng.surveyed_starts (n := n) .sweeping .survey
      exact ⟨_, hplain hr, ⟨hmark, hstart, rfl, hround, rfl, hother, rfl, rfl⟩, hclaims (hrecount'.trans hr), rfl⟩
    · have hr : isRecount (s.eng.slot n) = true := by rw [hrecount, h6]; rfl
      obtain ⟨hmark, hstart, hround, hother⟩ := s.eng.surveyed_starts (n := n) .census .census
      have howner' := howner (hrecount'.trans hr)
      rw [hmask'] at howner'
      have htaken := (takeClaims_survey (s.eng.queued n) 0 (y := (s.eng.queued n).slot n)
        (by rw [s.eng.queued_slot n]; exact hk)).1
      have hstr := get_provisional (orderMask (s.eng.slot n)) s.eng.strings
      refine ⟨_, hcount hr hown, ⟨hmark, hstart, rfl, hround, rfl, hother, rfl, rfl⟩,
        (congrArg Claims.charger htaken :), (congrArg Claims.water htaken :), fun g =>
        ⟨fun hg => ⟨(howner' g).trans (if_pos hg), (hstr g).trans (if_pos hg)⟩, fun hg =>
          ⟨(howner' g).trans (if_neg (by rw [hg]; decide)), (hstr g).trans (if_neg (by rw [hg]; decide))⟩⟩⟩
  · dsimp only
    rw [Engine.completion_census missing hr hslot hph hq, ← hslot, ← sweepLimit_eq]
    obtain ⟨os, ss, hctx, hstrs, hos, hss, hlist, hline⟩ :=
      e.censusCompletion_leaves p q.ctx (r.countSweep true) q replied hw
    refine ⟨_, hctx, rfl, fun g => ?_, fun g => ?_, fun ⟨g, hg⟩ hl => ?_, fun hn => ?_⟩
    · refine (hos g).trans ?_
      cases q.mask.getLsbD g.val
      · simp only [Bool.false_eq_true, if_false, true_or, if_true]
        rfl
      · simp only [Bool.true_eq_false, false_or]
        rfl
    · refine (congrArg (fun v => Vector.get v g) hstrs).trans ((hss g).trans ?_)
      by_cases hbit : q.mask.getLsbD g.val = true
      · rw [if_pos hbit, if_neg (Bool.not_eq_false _ ▸ hbit)]
        simp only [hbit, Bool.true_eq_false, false_or]
        rfl
      · rw [if_neg hbit, if_pos (Bool.not_eq_true _ ▸ hbit)]
    · rw [hlist (fun h => (undecided_eq_zero _).mp h g hg) hl, hq]
      rfl
    · exact hline ((undecided_eq_zero _).mpr hn)

end Sys2Proof.Machine
end

section
/-! SUPPORT. The needs and claims of EQUALISE, RETURN and WATER orders, and how their rounds begin (R15, R16, R29). -/

namespace Sys2Proof.Machine

/-! ## What a POST that is not refused says of its strings (R8) -/

theorem firstFailing_false {bs : List (Bool × Reason)} (h : firstFailing bs = none) : ∀ b ∈ bs, b.1 = false := by
  induction bs with
  | nil => simp
  | cons z bs ih =>
    obtain ⟨c, x⟩ := z
    cases c with
    | true => simp [firstFailing] at h
    | false => exact List.forall_mem_cons.mpr ⟨rfl, ih h⟩

/-- The strings of an order that moves them, where no check fails: none FAULTED, each with its census. -/
theorem Engine.refusal_none_strings {e : Engine} {p : Profile} {y : Slot} (h : e.refusal p y = none)
    (hn : needsStrings y = true) (g : StringId) (hg : (orderMask y).getLsbD g.val = true) :
    (e.str g).sel ≠ .faulted ∧ (e.str g).census = .established := by
  have hall := firstFailing_false (e.refusal_eq p y ▸ h)
  have hsel := hall (needsStrings y && !everyString y (fun g => (e.str g).sel != .faulted), .stringFaulted)
    (by simp [Engine.refusalChecks])
  have hcensus := hall (needsStrings y && !everyString y (fun g => (e.str g).census == .established), .noCensus)
    (by simp [Engine.refusalChecks])
  simp only [hn, Bool.true_and, Bool.not_eq_false', everyString_iff, bne_iff_ne, beq_iff_eq] at hsel hcensus
  exact ⟨hsel g hg, hcensus g hg⟩

/-- The strings of a RETURN are stranded, where no check fails. -/
theorem Engine.refusal_none_stranded {e : Engine} {p : Profile} {y : Slot} (h : e.refusal p y = none)
    (hk : orderKind y = some .giveBack) (g : StringId) (hg : (orderMask y).getLsbD g.val = true) :
    (e.str g).stranded = true := by
  have hall := firstFailing_false (e.refusal_eq p y ▸ h)
  have hst := hall (orderKind y == some .giveBack && !everyString y (fun g => (e.str g).stranded), .notStranded)
    (by simp [Engine.refusalChecks])
  simp only [hk, beq_self_eq_true, Bool.true_and, Bool.not_eq_false', everyString_iff] at hst
  exact hst g hg

/-! ## Needs (R15) -/

/-- The string's part of an order's needs. -/
theorem Engine.stringReady_iff {e : Engine} {g : StringId} : e.stringReady g = true ↔
    e.owner g = none ∧ (e.str g).sel ≠ .faulted ∧ (e.str g).stranded = false ∧ (e.str g).census = .established := by
  simp [Engine.stringReady, and_assoc]

theorem Engine.stringReturnable_iff {e : Engine} {g : StringId} : e.stringReturnable g = true ↔
    e.owner g = none ∧ (e.str g).stranded = true ∧ (e.str g).census = .established := by
  simp [Engine.stringReturnable, and_assoc]

theorem Engine.chargerFree_iff {e : Engine} :
    e.chargerFree = true ↔ e.claims.charger = none ∧ (latestLines e.latest).chgFault = false := by
  simp [Engine.chargerFree]

theorem equaliseAllowed_iff {y : Slot} {u : Supply} :
    equaliseAllowed y u = true ↔ u = .rich ∨ (u = .generator ∧ allowGenerator y = true) := by
  cases u <;> simp [equaliseAllowed]

theorem waterAllowed_iff {p : Profile} {u : Supply} : waterAllowed p u = true ↔
    u = .rich ∨ (u = .generator ∧ waterOnGenerator p = true) ∨ (u = .lean ∧ waterOnLean p = true) := by
  cases u <;> simp [waterAllowed]

theorem Engine.needsMet_equalise {e : Engine} {n : SlotId} {c : CtxId} (p : Profile) (hf : e.freeCtx = some c)
    (hk : orderKind (e.slot n) = some .equalise) (hc : e.chargerFree = true)
    (hr : ∀ g : StringId, (orderMask (e.slot n)).getLsbD g.val = true → e.stringReady g = true)
    (ha : equaliseAllowed (e.slot n) e.supply.state = true) (hl : e.line.state = .waking)
    (hw : thenWater (e.slot n) = true → e.water.state = .ready) : e.needsMet p n = true := by
  have hstrings := everyString_iff.mpr hr
  have hwater : (!thenWater (e.slot n) || e.water.state == .ready) = true := by
    cases h : thenWater (e.slot n) with
    | false => rfl
    | true => simp [hw h]
  have hline : e.lineUp = true := by rw [Engine.lineUp, hl]; decide
  simp only [Engine.needsMet, hf, hk, hc, hstrings, ha, hline, hwater, Option.isSome_some, Bool.and_self]

theorem Engine.needsMet_giveBack {e : Engine} {n : SlotId} {c : CtxId} (p : Profile) (hf : e.freeCtx = some c)
    (hk : orderKind (e.slot n) = some .giveBack) (hc : e.chargerFree = true)
    (hr : ∀ g : StringId, (orderMask (e.slot n)).getLsbD g.val = true → e.stringReturnable g = true) :
    e.needsMet p n = true := by
  have hstrings := everyString_iff.mpr hr
  simp only [Engine.needsMet, hf, hk, hc, hstrings, Option.isSome_some, Bool.and_self]

theorem Engine.needsMet_water {e : Engine} {n : SlotId} {c : CtxId} (p : Profile) (hf : e.freeCtx = some c)
    (hk : orderKind (e.slot n) = some .water) (hw : e.water.state = .ready)
    (hr : ∀ g : StringId, (orderMask (e.slot n)).getLsbD g.val = true → e.stringReady g = true)
    (ha : waterAllowed p e.supply.state = true) (hl : e.line.state = .waking) : e.needsMet p n = true := by
  have hstrings := everyString_iff.mpr hr
  have hline : e.lineUp = true := by rw [Engine.lineUp, hl]; decide
  simp only [Engine.needsMet, hf, hk, hw, hstrings, ha, hline, Option.isSome_some, beq_self_eq_true, Bool.or_true,
    Bool.and_self]

/-! ## Claims (R16, R143) -/

/-- What an order that moves its strings claims where nothing is claimed. -/
theorem Engine.takeClaims_blank {e : Engine} (c : CtxId) {y : Slot} (he : e.claims = Claims.blank)
    (hk : orderKind y ≠ some .survey) :
    (e.takeClaims c y).claims =
      { charger := if usesCharger y then some c else none, water := if usesWater y then some c else none,
        strings := Vector.ofFn fun g : StringId => if (orderMask y).getLsbD g.val then some c else none } := by
  have hclaimed : claimedStrings y = orderMask y := by simp [claimedStrings, hk]
  have howner (g : StringId) : e.owner g = none := by
    rw [Engine.owner, he]
    exact get_replicate _ g
  simp only [Engine.takeClaims, hclaimed, howner, he, hasString]
  rfl

/-- A path that is claimed becomes BUSY; one that is not stays. -/
theorem Engine.takeClaims_water {e : Engine} (c : CtxId) {y : Slot} (hw : usesWater y = true → e.water.state = .ready) :
    (e.takeClaims c y).water = if usesWater y then { e.water with state := .busy, idle := 0 } else e.water := by
  cases h : usesWater y with
  | false => simp [Engine.takeClaims, h]
  | true => simp [Engine.takeClaims, h, hw h]

/-! ## How a string begins (R117, R138, R152 to R154) -/

/-- The round of an order that moves its strings begins with the lowest of them. -/
theorem Engine.advance_begins {e : Engine} {p : Profile} {c : CtxId} {r : Round} {g : StringId} (hk : r.kind ≠ .survey)
    (hw : r.inWatering = false) (hf : r.firstCause = none) (hg : r.remaining.getLsbD g.val = true)
    (hmin : ∀ k : StringId, k < g → r.remaining.getLsbD k.val = false) : e.advance p c r = e.beginString p c r g := by
  simp [Engine.advance, hk, hw, hf, lowestString_eq hg hmin]

/-- An EQUALISE string begins with a CHECK sweep (R117). -/
theorem Engine.beginString_equalise {e : Engine} {p : Profile} {c : CtxId} {r : Round} {g : StringId}
    (hk : r.kind = .equalise) (hs : (e.str g).sel ≠ .faulted) (hl : e.line.state = .waking) :
    e.beginString p c r g
      = e.withRequest c ((r.startString g (e.str g).censusCount).enter .check e.clock) (oneString g) .check := by
  have hk' : (r.startString g (e.str g).censusCount).kind ≠ .giveBack := by
    rw [show (r.startString g (e.str g).censusCount).kind = .equalise from hk]; decide
  simp only [Engine.beginString, if_neg hs, if_neg hk']
  exact Engine.putRound_requestSweep p c ((r.startString g (e.str g).censusCount).enter .check e.clock) _ .check hl

/-- A RETURN string begins with an ESTIMATE sweep (R138). -/
theorem Engine.beginString_giveBack {e : Engine} {p : Profile} {c : CtxId} {r : Round} {g : StringId}
    (hk : r.kind = .giveBack) (hs : (e.str g).sel ≠ .faulted) (hl : e.line.state = .waking) :
    e.beginString p c r g
      = e.withRequest c { (r.startString g (e.str g).censusCount).enter .sweeping e.clock with leftLoad := true }
          (oneString g) .estimate := by
  have hk' : (r.startString g (e.str g).censusCount).kind = .giveBack := hk
  simp only [Engine.beginString, if_neg hs, if_pos hk']
  exact Engine.putRound_requestSweep p c
    { (r.startString g (e.str g).censusCount).enter .sweeping e.clock with leftLoad := true } _ .estimate hl

/-- A watering context chooses the lowest remaining string where that one is rested (R151). -/
theorem Engine.chooseWater_begins {e : Engine} {p : Profile} {c : CtxId} {r : Round} {g : StringId}
    (hg : r.remaining.getLsbD g.val = true) (hmin : ∀ k : StringId, k < g → r.remaining.getLsbD k.val = false)
    (hr : (e.str g).rested e.clock = true) : e.chooseWater p c r = e.beginWater p c r g := by
  have hrested : e.restedString r = some g :=
    find?_allStrings (by simp only [hasString, hg, hr, Bool.and_self]) fun k hk => by
      simp only [hasString, hmin k hk, Bool.false_and]
  simp only [Engine.chooseWater, hrested]

/-- A WATER string with ONLY_IF_LOW begins with a LEVEL sweep (R153). -/
theorem Engine.beginWater_level {e : Engine} {p : Profile} {c : CtxId} {r : Round} {g : StringId}
    (hs : (e.str g).sel = .atLoad) (hlow : onlyIfLow (e.slot r.slot) = true) (hl : e.line.state = .waking) :
    e.beginWater p c r g
      = e.withRequest c ((r.startString g (e.str g).censusCount).enter .levelCheck e.clock) (oneString g) .level := by
  have hlow' : onlyIfLow (e.slot (r.startString g (e.str g).censusCount).slot) = true := hlow
  simp only [Engine.beginWater, hs, ne_eq, not_true_eq_false, if_false, hlow', if_true]
  exact Engine.putRound_requestSweep p c ((r.startString g (e.str g).censusCount).enter .levelCheck e.clock) _ .level hl

/-- A WATER string without it enters PRIME, and its valve opens (R146, R154). -/
theorem Engine.beginWater_prime {e : Engine} {p : Profile} {c : CtxId} {r : Round} {g : StringId}
    (hs : (e.str g).sel = .atLoad) (hlow : onlyIfLow (e.slot r.slot) = false) (hb : e.water.state = .busy)
    (ho : e.canOpen c g = true) :
    e.beginWater p c r g = (e.openValve g).putRound c
      { (r.startString g (e.str g).censusCount).enter .prime e.clock with enteredPrime := true } := by
  have hlow' : onlyIfLow (e.slot (r.startString g (e.str g).censusCount).slot) = false := hlow
  have hcur : ((r.startString g (e.str g).censusCount).enter .prime e.clock).cur = some g := rfl
  simp only [Engine.beginWater, hs, ne_eq, not_true_eq_false, if_false, hlow', Bool.false_eq_true, Engine.enterPrime, hcur,
    hb, ho, if_true]

end Sys2Proof.Machine
end

section
/-! SUPPORT. Orders that move their strings, from the scan that starts them to the first step of their lowest string. -/

namespace Sys2Proof.Machine

@[simp] theorem Engine.dispatched_str (e : Engine) (c : CtxId) (n : SlotId) (k : Kind) (g : StringId) :
    (e.dispatched c n k).str g = e.str g := rfl

/-- An EQUALISE begins with its lowest string (R29, R117). -/
theorem Engine.beginRound_equalise {e : Engine} {p : Profile} {c : CtxId} {r : Round} {g : StringId}
    (hk : r.kind = .equalise) (hw : r.inWatering = false) (hf : r.firstCause = none)
    (hg : r.remaining.getLsbD g.val = true) (hmin : ∀ k : StringId, k < g → r.remaining.getLsbD k.val = false)
    (hs : (e.str g).sel ≠ .faulted) (hl : e.line.state = .waking) :
    e.beginRound p c r
      = e.withRequest c ((r.startString g (e.str g).censusCount).enter .check e.clock) (oneString g) .check := by
  have hround : e.beginRound p c r = e.advance p c r := by simp only [Engine.beginRound, hk]
  rw [hround, Engine.advance_begins (by rw [hk]; decide) hw hf hg hmin, Engine.beginString_equalise hk hs hl]

/-- A RETURN begins with its lowest string (R29, R138). -/
theorem Engine.beginRound_giveBack {e : Engine} {p : Profile} {c : CtxId} {r : Round} {g : StringId}
    (hk : r.kind = .giveBack) (hw : r.inWatering = false) (hf : r.firstCause = none)
    (hg : r.remaining.getLsbD g.val = true) (hmin : ∀ k : StringId, k < g → r.remaining.getLsbD k.val = false)
    (hs : (e.str g).sel ≠ .faulted) (hl : e.line.state = .waking) :
    e.beginRound p c r
      = e.withRequest c { (r.startString g (e.str g).censusCount).enter .sweeping e.clock with leftLoad := true }
          (oneString g) .estimate := by
  have hround : e.beginRound p c r = e.advance p c r := by simp only [Engine.beginRound, hk]
  rw [hround, Engine.advance_begins (by rw [hk]; decide) hw hf hg hmin, Engine.beginString_giveBack hk hs hl]

/-- A WATER begins with its lowest string, where that one is rested (R29, R151). -/
theorem Engine.beginRound_water {e : Engine} {p : Profile} {c : CtxId} {r : Round} {g : StringId} (hk : r.kind = .water)
    (hg : r.remaining.getLsbD g.val = true) (hmin : ∀ k : StringId, k < g → r.remaining.getLsbD k.val = false)
    (hr : (e.str g).rested e.clock = true) : e.beginRound p c r = e.beginWater p c r g := by
  have hne : r.remaining ≠ 0 := fun h => by simp [h] at hg
  simp only [Engine.beginRound, hk, if_neg hne]
  exact Engine.chooseWater_begins hg hmin hr

/-! ## The starts -/

/-- The strings that remain for a fresh round that moves strings. -/
theorem freshRound_remaining {y : Slot} {n : SlotId} {k : Kind} {now : Clock} (hk : k ≠ .survey) :
    (freshRound y n k now).remaining = orderMask y := if_neg hk

/-- The lowest string of an order that is about to start. -/
def Slot.lowest (y : Slot) (g : StringId) : Prop :=
  (orderMask y).getLsbD g.val = true ∧ ∀ k : StringId, k < g → (orderMask y).getLsbD k.val = false

theorem Slot.lowest_remaining {y : Slot} {g : StringId} (h : y.lowest g) {n : SlotId} {k : Kind} {now : Clock}
    (hk : k ≠ .survey) :
    (freshRound y n k now).remaining.getLsbD g.val = true
      ∧ ∀ j : StringId, j < g → (freshRound y n k now).remaining.getLsbD j.val = false := by
  rw [freshRound_remaining hk]; exact h

/-- The one queued order is about to start in C0 of an idle part, its kind known and its needs met. -/
structure Engine.Ready (e : Engine) (p : Profile) (n : SlotId) (k : Kind) : Prop where
  queue : e.board.queue = [n]
  mark : (e.slot n).mark = .queued
  idle : ∀ c, e.ctx c = none
  kind : orderKind (e.slot n) = some k
  needs : e.needsMet p n = true

/-- The round of an order as its string begins, in the phase it begins with. -/
def Engine.firstRound (e : Engine) (n : SlotId) (k : Kind) (g : StringId) (ph : Phase) : Round :=
  ((freshRound (e.slot n) n k e.clock).startString g (e.str g).censusCount).enter ph e.clock

/-- An EQUALISE that starts: its claims are taken and a CHECK sweep of its lowest string is requested. -/
theorem Engine.leads_equalise {p : Profile} {e : Engine} {n : SlotId} {g : StringId} (he : e.Ready p n .equalise)
    (hg : (e.slot n).lowest g) (hs : (e.str g).sel ≠ .faulted) (hl : e.line.state = .waking) :
    (e.hand [.scan]).Leads p 5
      ((e.dispatched 0 n .equalise).withRequest 0 (e.firstRound n .equalise g .check) (oneString g) .check) := by
  refine Engine.leads_start he.queue he.mark (Engine.freeCtx_idle he.idle) he.kind he.needs (fun ws => ?_) rfl
  obtain ⟨hin, hmin⟩ := Slot.lowest_remaining hg (n := n) (now := e.clock) (k := .equalise) (by decide)
  have hbegin := Engine.beginRound_equalise (e := (e.dispatched 0 n .equalise).hand ws) (p := p) (c := 0) rfl rfl rfl hin
    hmin
  simp only [Engine.hand_str, Engine.dispatched_str, Engine.hand_line, Engine.dispatched_line, Engine.hand_withRequest,
    Engine.hand_clock, Engine.dispatched_clock] at hbegin
  exact hbegin hs hl

/-- A RETURN that starts: its claims are taken and an ESTIMATE sweep of its lowest string is requested. -/
theorem Engine.leads_giveBack {p : Profile} {e : Engine} {n : SlotId} {g : StringId} (he : e.Ready p n .giveBack)
    (hg : (e.slot n).lowest g) (hs : (e.str g).sel ≠ .faulted) (hl : e.line.state = .waking) :
    (e.hand [.scan]).Leads p 5 ((e.dispatched 0 n .giveBack).withRequest 0
      { e.firstRound n .giveBack g .sweeping with leftLoad := true } (oneString g) .estimate) := by
  refine Engine.leads_start he.queue he.mark (Engine.freeCtx_idle he.idle) he.kind he.needs (fun ws => ?_) rfl
  obtain ⟨hin, hmin⟩ := Slot.lowest_remaining hg (n := n) (now := e.clock) (k := .giveBack) (by decide)
  have hbegin := Engine.beginRound_giveBack (e := (e.dispatched 0 n .giveBack).hand ws) (p := p) (c := 0) rfl rfl rfl hin
    hmin
  simp only [Engine.hand_str, Engine.dispatched_str, Engine.hand_line, Engine.dispatched_line, Engine.hand_withRequest,
    Engine.hand_clock, Engine.dispatched_clock] at hbegin
  exact hbegin hs hl

theorem Engine.dispatched_slot (e : Engine) (c : CtxId) (n : SlotId) (k : Kind) :
    (e.dispatched c n k).slot n = (e.slot n).dispatch e.clock := get_set_same _ _ _

theorem onlyIfLow_dispatch (y : Slot) (now : Clock) : onlyIfLow (y.dispatch now) = onlyIfLow y := rfl

/-- A WATER that starts with ONLY_IF_LOW: its claims are taken and a LEVEL sweep of its lowest string is requested. -/
theorem Engine.leads_water_level {p : Profile} {e : Engine} {n : SlotId} {g : StringId} (he : e.Ready p n .water)
    (hg : (e.slot n).lowest g) (hs : (e.str g).sel = .atLoad) (hr : (e.str g).rested e.clock = true)
    (hlow : onlyIfLow (e.slot n) = true) (hl : e.line.state = .waking) :
    (e.hand [.scan]).Leads p 5
      ((e.dispatched 0 n .water).withRequest 0 (e.firstRound n .water g .levelCheck) (oneString g) .level) := by
  refine Engine.leads_start he.queue he.mark (Engine.freeCtx_idle he.idle) he.kind he.needs (fun ws => ?_) rfl
  obtain ⟨hin, hmin⟩ := Slot.lowest_remaining hg (n := n) (now := e.clock) (k := .water) (by decide)
  have hchoose := Engine.beginRound_water (e := (e.dispatched 0 n .water).hand ws) (p := p) (c := 0) rfl hin hmin
  have hbegin := Engine.beginWater_level (e := (e.dispatched 0 n .water).hand ws) (p := p) (c := 0)
    (r := freshRound (e.slot n) n .water e.clock) (g := g)
  simp only [Engine.hand_str, Engine.dispatched_str, Engine.hand_line, Engine.dispatched_line, Engine.hand_withRequest,
    Engine.hand_clock, Engine.dispatched_clock, Engine.hand_slot, freshRound_slot, Engine.dispatched_slot,
    onlyIfLow_dispatch] at hbegin hchoose
  exact (hchoose hr).trans (hbegin hs hlow hl)

/-- A WATER that starts without it: its claims are taken, and the valve of its lowest string opens. -/
theorem Engine.leads_water_prime {p : Profile} {e : Engine} {n : SlotId} {g : StringId} (he : e.Ready p n .water)
    (hg : (e.slot n).lowest g) (hs : (e.str g).sel = .atLoad) (hr : (e.str g).rested e.clock = true)
    (hlow : onlyIfLow (e.slot n) = false) (hw : e.water.state = .ready) (hv : e.water.valve = none)
    (hco : e.water.coast = none) :
    (e.hand [.scan]).Leads p 5 (((e.dispatched 0 n .water).openValve g).putRound 0
      { e.firstRound n .water g .prime with enteredPrime := true }) := by
  have huses : usesWater (e.slot n) = true := by simp [usesWater, he.kind]
  have hclaimed : claimedStrings (e.slot n) = orderMask (e.slot n) := by simp [claimedStrings, he.kind]
  have hwater : (e.dispatched 0 n .water).water = { e.water with state := .busy, idle := 0 } := by
    have := Engine.takeClaims_water 0 (y := e.slot n) fun _ => hw
    rwa [huses] at this
  have howner : (e.dispatched 0 n .water).owner g = some 0 := by
    refine (get_ofFn _ g).trans ?_
    rw [hclaimed]
    exact if_pos hg.1
  have hholds : (e.dispatched 0 n .water).claims.water = some 0 := by
    show (if usesWater (e.slot n) then some 0 else e.claims.water) = some 0
    rw [huses]; rfl
  have hopen (ws : List Work) : ((e.dispatched 0 n .water).hand ws).canOpen 0 g = true := by
    simp only [Engine.canOpen, Engine.hand_claims, Engine.hand_water, Engine.hand_owner, Engine.hand_str, Engine.hand_clock,
      hholds, hwater, hv, hco, howner, Engine.dispatched_str, Engine.dispatched_clock, hs, hr]
    rfl
  refine Engine.leads_start he.queue he.mark (Engine.freeCtx_idle he.idle) he.kind he.needs (fun ws => ?_) rfl
  obtain ⟨hin, hmin⟩ := Slot.lowest_remaining hg (n := n) (now := e.clock) (k := .water) (by decide)
  have hchoose := Engine.beginRound_water (e := (e.dispatched 0 n .water).hand ws) (p := p) (c := 0) rfl hin hmin
  have hbegin := Engine.beginWater_prime (e := (e.dispatched 0 n .water).hand ws) (p := p) (c := 0)
    (r := freshRound (e.slot n) n .water e.clock) (g := g)
  simp only [Engine.hand_str, Engine.dispatched_str, Engine.hand_clock, Engine.dispatched_clock, Engine.hand_slot,
    freshRound_slot, Engine.dispatched_slot, onlyIfLow_dispatch, Engine.hand_water, hwater] at hbegin hchoose
  exact (hchoose hr).trans (hbegin hs hlow trivial (hopen ws))

end Sys2Proof.Machine
end

section
/-! SUPPORT. Pass-over counts and favour (R17, R18), and what a dispatch takes. -/

namespace Sys2Proof.Machine

/-! ## Pass-over counts and favour (R17) -/

/-- Favour after its rule has been applied: the order that had it, or the first entry whose count is 8. -/
theorem Engine.refavour_eq (e : Engine) : e.refavour = { e with board := { e.board with
    favoured := e.board.favoured.or (e.board.queue.find? fun m => (e.slot m).passOver == 8) } } := by
  unfold Engine.refavour
  split
  · rename_i f hf
    rw [hf, Option.some_or, ← hf]
  · rename_i hf
    rw [hf, Option.none_or]
    rfl

/-- Some slots changed one after another, each once: those, and no other slot. -/
theorem Engine.slot_modSlots (f : Slot → Slot) {l : List SlotId} (hl : l.Nodup) (e : Engine) (m : SlotId) :
    (l.foldl (fun e n => e.modSlot n f) e).slot m = if m ∈ l then f (e.slot m) else e.slot m := by
  induction l generalizing e with
  | nil => simp
  | cons n l ih =>
    obtain ⟨hn, hl⟩ := List.nodup_cons.mp hl
    rw [List.foldl_cons, ih hl]
    by_cases hm : m = n
    · subst hm
      rw [if_neg hn, if_pos List.mem_cons_self, Engine.modSlot_same]
    · have hother : (e.modSlot n f).slot m = e.slot m := e.slot_putSlot_other _ hm
      simp only [List.mem_cons, hm, false_or, hother]

theorem Engine.modSlots_rest (f : Slot → Slot) (l : List SlotId) (e : Engine) :
    ∃ v, l.foldl (fun e n => e.modSlot n f) e = { e with board := { e.board with slots := v } } := by
  induction l generalizing e with
  | nil => exact ⟨_, rfl⟩
  | cons n l ih =>
    obtain ⟨v, hv⟩ := ih (e.modSlot n f)
    exact ⟨v, hv⟩

/-- The board of a dispatch, once its entry has left the queue and the entries before it have been counted (R16, R17). -/
theorem Engine.dispatch_board (e : Engine) (c : CtxId) (n : SlotId) (k : Kind) (hq : e.board.queue.Nodup) :
    let left := e.board.queue.filter fun m => m != n
    let count (m : SlotId) : Nat :=
      if m ∈ e.board.queue.takeWhile (fun j => j != n) then min 8 ((e.slot m).passOver + 1) else (e.slot m).passOver
    (e.dispatch c n k).board.queue = left
      ∧ (∀ m, m ≠ n → (e.dispatch c n k).slot m = { e.slot m with passOver := count m })
      ∧ (e.dispatch c n k).board.favoured = ((if e.board.favoured = some n then none else e.board.favoured).or
          (left.find? fun m => (e.slot m).passOver == 8)).or (left.find? fun m => count m == 8) := by
  intro left count
  let before := e.board.queue.takeWhile fun m => m != n
  have hbefore : before.Nodup := hq.sublist (List.takeWhile_sublist _)
  -- The board as the entry leaves it.
  let moved : Engine := ((e.takeClaims c (e.slot n)).putRound c (freshRound (e.slot n) n k e.clock)).modSlot n
    fun x => x.dispatch e.clock
  let gone : Engine := moved.leaveQueue n
  have hmoved (m : SlotId) (hm : m ≠ n) : moved.slot m = e.slot m := get_set_other _ _ hm
  have hleft (m : SlotId) (hm : m ∈ left) : m ≠ n := by simpa using (List.mem_filter.mp hm).2
  have hgone : gone = { moved with board := { moved.board with
      queue := left
      favoured := (if e.board.favoured = some n then none else e.board.favoured).or
        (left.find? fun m => (moved.slot m).passOver == 8) } } := Engine.refavour_eq _
  have hslot (m : SlotId) (hm : m ≠ n) : gone.slot m = e.slot m := by rw [hgone]; exact hmoved m hm
  -- The entries before it, counted.
  obtain ⟨v, hv⟩ := Engine.modSlots_rest (fun x => { x with passOver := bump 8 x.passOver }) before gone
  have hcounted (m : SlotId) (hm : m ≠ n) : v.get m = { e.slot m with passOver := count m } := by
    have := Engine.slot_modSlots (fun x => { x with passOver := bump 8 x.passOver }) hbefore gone m
    rw [hv, hslot m hm] at this
    refine this.trans ?_
    by_cases hb : m ∈ before
    · rw [if_pos hb, show count m = min 8 ((e.slot m).passOver + 1) from if_pos hb]
      rfl
    · rw [if_neg hb, show count m = (e.slot m).passOver from if_neg hb]
  have hdispatch : e.dispatch c n k
      = ({ gone with board := { gone.board with slots := v } } : Engine).refavour := by rw [← hv]; rfl
  have hfind {P Q : SlotId → Nat} (h : ∀ m, m ≠ n → P m = Q m) :
      (left.find? fun m => P m == 8) = left.find? fun m => Q m == 8 :=
    List.find?_congr fun m hm => by rw [h m (hleft m hm)]
  rw [hdispatch, Engine.refavour_eq, hgone]
  refine ⟨rfl, hcounted, ?_⟩
  show Option.or (Option.or _ _) _ = _
  rw [hfind fun m hm => congrArg Slot.passOver (hmoved m hm)]
  exact congrArg _ (hfind fun m hm => congrArg Slot.passOver (hcounted m hm))

/-! ## The favour rule (R18) -/

theorem usesCharger_iff {y : Slot} : usesCharger y = true ↔ orderCode y = 2 ∨ orderCode y = 4 := by
  simp [usesCharger, orderKind_equalise, orderKind_giveBack]

theorem thenWater_iff {y : Slot} : thenWater y = true ↔ orderCode y = 2 ∧ (bodyByte y 16).getLsbD 1 = true := by
  simp [thenWater, orderKind_equalise, bodyFlag]

theorem usesWater_iff {y : Slot} :
    usesWater y = true ↔ orderCode y = 3 ∨ (orderCode y = 2 ∧ (bodyByte y 16).getLsbD 1 = true) := by
  rw [usesWater, Bool.or_eq_true, thenWater_iff, beq_iff_eq, orderKind_water]

/-- An order of the four kinds moves a string of its mask, a SURVEY only with RECOUNT (R18). -/
def moves (y : Slot) (g : StringId) : Prop :=
  (orderMask y).getLsbD g.val = true
    ∧ (orderCode y = 2 ∨ orderCode y = 3 ∨ orderCode y = 4 ∨ (orderCode y = 1 ∧ (bodyByte y 6).getLsbD 0 = true))

/-- The strings an order of the four kinds claims. -/
theorem mem_claimedStrings {y : Slot} (hk : within 1 4 (orderCode y) = true) (g : StringId) :
    (claimedStrings y).getLsbD g.val = true ↔ moves y g := by
  rw [within_iff] at hk
  by_cases h1 : orderCode y = 1
  · have hothers : ¬ (orderCode y = 2 ∨ orderCode y = 3 ∨ orderCode y = 4) := by omega
    rw [claimedStrings_survey (orderKind_survey.mpr h1)]
    by_cases hr : isRecount y = true
    · have hflag := (isRecount_survey (orderKind_survey.mpr h1)).symm.trans hr
      rw [if_pos hr]
      exact ⟨fun h => ⟨h, .inr (.inr (.inr ⟨h1, hflag⟩))⟩, And.left⟩
    · have hflag := mt (isRecount_survey (orderKind_survey.mpr h1)).trans hr
      rw [if_neg hr]
      refine ⟨fun h => absurd h (by simp), fun ⟨_, h⟩ => ?_⟩
      obtain h | h | h | h := h
      · exact absurd (.inl h) hothers
      · exact absurd (.inr (.inl h)) hothers
      · exact absurd (.inr (.inr h)) hothers
      · exact absurd h.2 hflag
  · have hkind : orderKind y ≠ some .survey := fun h => h1 (orderKind_survey.mp h)
    have hany : orderCode y = 2 ∨ orderCode y = 3 ∨ orderCode y = 4 ∨ (orderCode y = 1 ∧ (bodyByte y 6).getLsbD 0 = true) := by
      omega
    simp only [claimedStrings, hkind, decide_false, Bool.false_and, Bool.false_eq_true, if_false, moves, hany, and_true]

/-- Two orders share the charger, the water path or a string (R18). -/
def sharesResource (y z : Slot) : Prop :=
  ((orderCode y = 2 ∨ orderCode y = 4) ∧ (orderCode z = 2 ∨ orderCode z = 4))
    ∨ ((orderCode y = 3 ∨ (orderCode y = 2 ∧ (bodyByte y 16).getLsbD 1 = true))
        ∧ (orderCode z = 3 ∨ (orderCode z = 2 ∧ (bodyByte z 16).getLsbD 1 = true)))
    ∨ ∃ g, moves y g ∧ moves z g

theorem disjointMasks_iff {a b : Byte} :
    (a &&& b == 0) = true ↔ ¬ ∃ g : StringId, a.getLsbD g.val = true ∧ b.getLsbD g.val = true := by
  rw [beq_iff_eq, mask_eq_zero, not_exists]
  refine forall_congr' fun g => ?_
  rw [BitVec.getLsbD_and, Bool.and_eq_false_iff, not_and_or, Bool.not_eq_true, Bool.not_eq_true]

theorem disjointOrders_iff {y z : Slot} (hy : within 1 4 (orderCode y) = true) (hz : within 1 4 (orderCode z) = true) :
    disjointOrders y z = true ↔ ¬ sharesResource y z := by
  have hboth (a b : Bool) : (!(a && b)) = true ↔ ¬ (a = true ∧ b = true) := by
    rw [Bool.not_eq_true', ← Bool.not_eq_true, Bool.and_eq_true]
  have hmoves : (∃ g : StringId, (claimedStrings y).getLsbD g.val = true ∧ (claimedStrings z).getLsbD g.val = true) ↔
      ∃ g, moves y g ∧ moves z g := exists_congr fun g => and_congr (mem_claimedStrings hy g) (mem_claimedStrings hz g)
  rw [disjointOrders, Bool.and_eq_true, Bool.and_eq_true, hboth, hboth, disjointMasks_iff, hmoves, usesCharger_iff,
    usesCharger_iff, usesWater_iff, usesWater_iff, sharesResource, not_or, not_or, and_assoc]

/-- Behind the favoured order, favour allows exactly what shares no resource with it (R18). -/
theorem Engine.favourAllows_behind {e : Engine} {n f : SlotId} (hf : e.board.favoured = some f) (hfn : f ≠ n)
    (hb : f ∈ e.board.queue.takeWhile fun m => m != n) :
    e.favourAllows n = disjointOrders (e.slot f) (e.slot n) := by
  simp only [Engine.favourAllows, hf]
  rw [List.contains_iff_mem.mpr hb]
  simp [hfn]

end Sys2Proof.Machine
end

section
/-! SUPPORT. What a POST that starts its order leaves, and the statement about dispatch (R14 to R18). -/

namespace Sys2Proof.Machine

/-- An order that has been queued on an idle board is about to start, where its needs are met. -/
theorem Engine.queued_ready {e : Engine} {p : Profile} {n : SlotId} {k : Kind} (hq : e.board.queue = [])
    (hi : ∀ c, e.ctx c = none) (hk : orderKind (e.slot n) = some k) (hn : (e.queued n).needsMet p n = true) :
    (e.queued n).Ready p n k where
  queue := e.queued_queue n hq
  mark := by rw [e.queued_slot n]; rfl
  idle := hi
  kind := by rw [e.queued_slot n]; exact hk
  needs := hn

theorem Engine.queued_lowest {e : Engine} {n : SlotId} {g : StringId} (h : (e.slot n).lowest g) :
    ((e.queued n).slot n).lowest g := by
  rw [e.queued_slot n]; exact h

/-- Where nothing is claimed, no string has an owner. -/
theorem Engine.owner_blank {e : Engine} (he : e.claims = Claims.blank) (g : StringId) : e.owner g = none := by
  rw [Engine.owner, he]
  exact get_replicate _ g

/-- What the dispatch of an order that moves its strings leaves, in C0 of a part where nothing is claimed (R16, R143). -/
theorem Engine.queued_dispatched_leaves {e : Engine} {n : SlotId} {k : Kind} (he : e.claims = Claims.blank)
    (hk : orderKind (e.slot n) = some k) (hne : k ≠ .survey)
    (hw : usesWater (e.slot n) = true → e.water.state = .ready) :
    let D := (e.queued n).dispatched 0 n k
    let y := e.slot n
    (D.slot n).mark = .running ∧ (D.slot n).result.started = e.clock
      ∧ D.claims = { charger := if usesCharger y then some 0 else none, water := if usesWater y then some 0 else none,
                     strings := Vector.ofFn fun g : StringId => if (orderMask y).getLsbD g.val then some 0 else none }
      ∧ D.water = if usesWater y then { e.water with state := .busy, idle := 0 } else e.water := by
  intro D y
  have hslot := e.queued_dispatched_slot n 0 k
  have hq := e.queued_slot n
  have hkind : orderKind ((e.queued n).slot n) ≠ some .survey := by
    rw [hq]
    exact fun h => hne (Option.some.inj (hk.symm.trans h))
  have hclaims := Engine.takeClaims_blank (e := e.queued n) 0 he hkind
  have hwater := Engine.takeClaims_water (e := e.queued n) 0 (y := (e.queued n).slot n) (by rw [hq]; exact hw)
  rw [hq] at hclaims hwater
  refine ⟨(congrArg Slot.mark hslot :), (congrArg (fun x => x.result.started) hslot :), ?_, ?_⟩
  · rw [show D.claims = ((e.queued n).takeClaims 0 ((e.queued n).slot n)).claims from rfl, hq]
    exact hclaims
  · rw [show D.water = ((e.queued n).takeClaims 0 ((e.queued n).slot n)).water from rfl, hq]
    exact hwater

/-- The strings of an order that moves them have their needs, where they are not stranded and nothing is claimed. -/
theorem Engine.stringReady_of_accepted {e : Engine} {p : Profile} {y : Slot} (hok : e.refusal p y = none)
    (hn : needsStrings y = true) (he : e.claims = Claims.blank) {g : StringId}
    (hg : (orderMask y).getLsbD g.val = true) (hs : (e.str g).stranded = false) : e.stringReady g = true := by
  obtain ⟨hsel, hcensus⟩ := Engine.refusal_none_strings hok hn g hg
  exact Engine.stringReady_iff.mpr ⟨Engine.owner_blank he g, hsel, hs, hcensus⟩

theorem Engine.chargerFree_blank {e : Engine} (he : e.claims = Claims.blank)
    (hc : (latestLines e.latest).chgFault = false) : e.chargerFree = true :=
  Engine.chargerFree_iff.mpr ⟨by rw [he]; rfl, hc⟩

theorem StringRec.rested_at_zero {x : StringRec} (h : x.restUntil = 0) (now : Clock) : x.rested now = true := by
  simp [StringRec.rested, h]

/-- A sound order is in a FREE slot of an idle part with nothing claimed and its line WAKING: a POST may start it. -/
structure State.Startable (s : State) (a : BitVec 16) (n : SlotId) (g : StringId) : Prop where
  up : s.linkUp
  calm : s.calm
  addressed : low13 a = 0x0100 + 64 * n.val
  free : (s.eng.slot n).mark = .free
  accepted : s.eng.refusal s.profile (s.eng.slot n) = none
  queue : s.eng.board.queue = []
  idle : ∀ c, s.eng.ctx c = none
  blank : s.eng.claims = Claims.blank
  waking : s.eng.line.state = .waking
  lowest : (s.eng.slot n).lowest g

theorem post_equalise_starts {s : State} {a : BitVec 16} {n : SlotId} {g : StringId} (h : s.Startable a n g)
    (hk : orderKind (s.eng.slot n) = some .equalise)
    (hst : ∀ k : StringId, (orderMask (s.eng.slot n)).getLsbD k.val = true → (s.eng.str k).stranded = false)
    (hcf : (latestLines s.eng.latest).chgFault = false)
    (hsup : s.eng.supply.state = .rich ∨ (s.eng.supply.state = .generator ∧ allowGenerator (s.eng.slot n) = true))
    (hw : thenWater (s.eng.slot n) = true → s.eng.water.state = .ready) :
    exec (.post ⟨a, [0x01]⟩) s = .next { (s.echo a).ended false with
      eng := ((s.eng.queued n).dispatched 0 n .equalise).withRequest 0 ((s.eng.queued n).firstRound n .equalise g .check)
        (oneString g) .check } := by
  have hq := s.eng.queued_slot n
  have hns : needsStrings (s.eng.slot n) = true := by simp [needsStrings_iff, orderKind_equalise.mp hk]
  have hneeds : (s.eng.queued n).needsMet s.profile n = true := by
    refine Engine.needsMet_equalise _ (Engine.freeCtx_idle h.idle) (by rw [hq]; exact hk)
      (Engine.chargerFree_blank h.blank hcf) (fun k hm => ?_) ?_ h.waking ?_
    · rw [hq] at hm
      exact Engine.stringReady_of_accepted h.accepted hns h.blank hm (hst k hm)
    · rw [hq]
      exact equaliseAllowed_iff.mpr hsup
    · rw [hq]
      exact hw
  have hcode : orderCode (s.eng.slot n) ≠ 5 := by rw [orderKind_equalise.mp hk]; decide
  exact exec_post_leads h.up h.addressed h.free h.accepted hcode
    (Engine.leads_equalise (Engine.queued_ready h.queue h.idle hk hneeds) (Engine.queued_lowest h.lowest)
      (Engine.refusal_none_strings h.accepted hns g h.lowest.1).1 h.waking) (by decide) h.calm.1 h.calm.2

theorem post_giveBack_starts {s : State} {a : BitVec 16} {n : SlotId} {g : StringId} (h : s.Startable a n g)
    (hk : orderKind (s.eng.slot n) = some .giveBack) (hcf : (latestLines s.eng.latest).chgFault = false) :
    exec (.post ⟨a, [0x01]⟩) s = .next { (s.echo a).ended false with
      eng := ((s.eng.queued n).dispatched 0 n .giveBack).withRequest 0
        { (s.eng.queued n).firstRound n .giveBack g .sweeping with leftLoad := true } (oneString g) .estimate } := by
  have hq := s.eng.queued_slot n
  have hns : needsStrings (s.eng.slot n) = true := by simp [needsStrings_iff, orderKind_giveBack.mp hk]
  have hneeds : (s.eng.queued n).needsMet s.profile n = true := by
    refine Engine.needsMet_giveBack _ (Engine.freeCtx_idle h.idle) (by rw [hq]; exact hk)
      (Engine.chargerFree_blank h.blank hcf) (fun k hm => ?_)
    rw [hq] at hm
    exact Engine.stringReturnable_iff.mpr ⟨Engine.owner_blank h.blank k, Engine.refusal_none_stranded h.accepted hk k hm,
      (Engine.refusal_none_strings h.accepted hns k hm).2⟩
  have hcode : orderCode (s.eng.slot n) ≠ 5 := by rw [orderKind_giveBack.mp hk]; decide
  exact exec_post_leads h.up h.addressed h.free h.accepted hcode
    (Engine.leads_giveBack (Engine.queued_ready h.queue h.idle hk hneeds) (Engine.queued_lowest h.lowest)
      (Engine.refusal_none_strings h.accepted hns g h.lowest.1).1 h.waking) (by decide) h.calm.1 h.calm.2

theorem post_water_starts {s : State} {a : BitVec 16} {n : SlotId} {g : StringId} (h : s.Startable a n g)
    (hk : orderKind (s.eng.slot n) = some .water)
    (hst : ∀ k : StringId, (orderMask (s.eng.slot n)).getLsbD k.val = true → (s.eng.str k).stranded = false)
    (hw : s.eng.water.state = .ready)
    (hsup : s.eng.supply.state = .rich ∨ (s.eng.supply.state = .generator ∧ waterOnGenerator s.profile = true)
      ∨ (s.eng.supply.state = .lean ∧ waterOnLean s.profile = true))
    (hsel : (s.eng.str g).sel = .atLoad) (hrest : (s.eng.str g).restUntil = 0) :
    (onlyIfLow (s.eng.slot n) = true → exec (.post ⟨a, [0x01]⟩) s = .next { (s.echo a).ended false with
        eng := ((s.eng.queued n).dispatched 0 n .water).withRequest 0 ((s.eng.queued n).firstRound n .water g .levelCheck)
          (oneString g) .level })
    ∧ (onlyIfLow (s.eng.slot n) = false → s.eng.water.valve = none → s.eng.water.coast = none →
        exec (.post ⟨a, [0x01]⟩) s = .next { (s.echo a).ended false with
          eng := (((s.eng.queued n).dispatched 0 n .water).openValve g).putRound 0
            { (s.eng.queued n).firstRound n .water g .prime with enteredPrime := true } }) := by
  have hq := s.eng.queued_slot n
  have hns : needsStrings (s.eng.slot n) = true := by simp [needsStrings_iff, orderKind_water.mp hk]
  have hneeds : (s.eng.queued n).needsMet s.profile n = true := by
    refine Engine.needsMet_water _ (Engine.freeCtx_idle h.idle) (by rw [hq]; exact hk) hw (fun k hm => ?_)
      (waterAllowed_iff.mpr hsup) h.waking
    rw [hq] at hm
    exact Engine.stringReady_of_accepted h.accepted hns h.blank hm (hst k hm)
  have hcode : orderCode (s.eng.slot n) ≠ 5 := by rw [orderKind_water.mp hk]; decide
  have hready := Engine.queued_ready h.queue h.idle hk hneeds
  have hrested := StringRec.rested_at_zero hrest s.eng.clock
  constructor
  · intro hlow
    exact exec_post_leads h.up h.addressed h.free h.accepted hcode
      (Engine.leads_water_level hready (Engine.queued_lowest h.lowest) hsel hrested (by rw [hq]; exact hlow) h.waking)
      (by decide) h.calm.1 h.calm.2
  · intro hlow hv hco
    exact exec_post_leads h.up h.addressed h.free h.accepted hcode
      (Engine.leads_water_prime hready (Engine.queued_lowest h.lowest) hsel hrested (by rw [hq]; exact hlow) hw hv hco)
      (by decide) h.calm.1 h.calm.2

/-- The strings that remain once the lowest has begun. -/
theorem Engine.queued_firstRound_remaining (e : Engine) (n : SlotId) (g : StringId) (ph : Phase) {k : Kind}
    (hk : k ≠ .survey) :
    ((e.queued n).firstRound n k g ph).remaining = orderMask (e.slot n) &&& ~~~ (1#8 <<< g.val) := by
  have h := freshRound_remaining (y := (e.queued n).slot n) (n := n) (now := e.clock) hk
  rw [e.queued_slot n] at h
  exact congrArg (fun m => dropString m g) ((congrArg (fun y => (freshRound y n k e.clock).remaining) (e.queued_slot n)).trans h)

/-- A POST that starts the order of slot `n` with the string `g`, by the claims, the kind, the phase and the sweep of its
first step. -/
def State.Begins (s : State) (a : BitVec 16) (n : SlotId) (g : StringId) (charger water : Bool) (k : Kind) (ph : Phase)
    (sweep : Option Purpose) : Prop :=
  let m := orderMask (s.eng.slot n)
  let busy : Water := { s.eng.water with state := .busy, idle := 0 }
  ∃ t r, exec (.post ⟨a, [0x01]⟩) s = .next t ∧ (t.eng.slot n).mark = .running ∧ t.eng.board.queue = []
    ∧ (t.eng.slot n).result.started = s.eng.clock
    ∧ t.eng.claims = { charger := if charger then some 0 else none, water := if water then some 0 else none,
                       strings := Vector.ofFn fun k : StringId => if m.getLsbD k.val then some 0 else none }
    ∧ t.eng.ctx 0 = some r ∧ r.slot = n ∧ r.kind = k ∧ r.phase = ph ∧ r.phaseStart = s.eng.clock ∧ r.cur = some g
    ∧ r.remaining = m &&& ~~~ (1#8 <<< g.val) ∧ r.firstCause = none ∧ r.pendingOutcome = none
    ∧ t.eng.line.list = s.eng.line.list ++ (match sweep with
        | some u => [{ ctx := 0, slot := n, mask := 1#8 <<< g.val, purpose := u }]
        | none => [])
    ∧ t.eng.water = (if ph = .prime then { busy with valve := some g, pump := true }
        else if water then busy else s.eng.water)
    ∧ t.eng.strings = s.eng.strings ∧ t.eng.charger = s.eng.charger ∧ t.alert = s.alert

/-- A start that requests a sweep of its lowest string: what it leaves, by the order's kind. -/
theorem State.begins_of_request {s : State} {a : BitVec 16} {n : SlotId} {g : StringId} {k : Kind} {ph : Phase} {r : Round}
    {u : Purpose} (h : s.Startable a n g) (hk : orderKind (s.eng.slot n) = some k) (hne : k ≠ .survey) (hp : ph ≠ .prime)
    (hw : usesWater (s.eng.slot n) = true → s.eng.water.state = .ready)
    (hr : ∃ b, r = { (s.eng.queued n).firstRound n k g ph with leftLoad := b })
    (hx : exec (.post ⟨a, [0x01]⟩) s = .next { (s.echo a).ended false with
      eng := ((s.eng.queued n).dispatched 0 n k).withRequest 0 r (oneString g) u }) :
    s.Begins a n g (usesCharger (s.eng.slot n)) (usesWater (s.eng.slot n)) k ph (some u) := by
  obtain ⟨b, rfl⟩ := hr
  obtain ⟨hmark, hstart, hclaims, hwater⟩ := Engine.queued_dispatched_leaves h.blank hk hne hw
  exact ⟨_, _, hx, hmark, rfl, hstart, hclaims, get_set_same _ _ _, rfl, rfl, rfl, rfl, rfl,
    s.eng.queued_firstRound_remaining n g ph hne, rfl, rfl, rfl, hwater.trans (if_neg hp).symm, rfl, rfl, rfl⟩

/-- A start that opens the valve of its lowest string: what it leaves. -/
theorem State.begins_of_prime {s : State} {a : BitVec 16} {n : SlotId} {g : StringId} (h : s.Startable a n g)
    (hk : orderKind (s.eng.slot n) = some .water) (hw : s.eng.water.state = .ready)
    (hx : exec (.post ⟨a, [0x01]⟩) s = .next { (s.echo a).ended false with
      eng := (((s.eng.queued n).dispatched 0 n .water).openValve g).putRound 0
        { (s.eng.queued n).firstRound n .water g .prime with enteredPrime := true } }) :
    s.Begins a n g (usesCharger (s.eng.slot n)) (usesWater (s.eng.slot n)) .water .prime none := by
  obtain ⟨hmark, hstart, hclaims, hwater⟩ := Engine.queued_dispatched_leaves h.blank hk (by decide) fun _ => hw
  have huses : usesWater (s.eng.slot n) = true := by simp [usesWater, hk]
  rw [if_pos huses] at hwater
  exact ⟨_, _, hx, hmark, rfl, hstart, hclaims, get_set_same _ _ _, rfl, rfl, rfl, rfl, rfl,
    s.eng.queued_firstRound_remaining n g .prime (by decide), rfl, rfl, (List.append_nil _).symm,
    congrArg (fun w : Water => { w with valve := some g, pump := true }) hwater, rfl, rfl, rfl⟩

/-- Settles O36: the starts kind by kind, the board of a dispatch, and the walk behind the favoured order. -/
theorem dispatchTakesItsClaims : Obligations.DispatchTakesItsClaims := by
  unfold Obligations.DispatchTakesItsClaims
  refine ⟨fun s a n g hs hc ha hfree hok hu _ he hl => ?_, fun e c n k => ?_, fun e p n f rest hf hfn hb => ?_⟩
  · intro y m hg hmin mine busy starts
    have h : s.Startable a n g := ⟨hs, hc, ha, hfree, hok, hu.1, hu.2, he, hl, hg, hmin⟩
    have hbegins {charger water : Bool} {k : Kind} {ph : Phase} {u : Option Purpose} (hcharger : usesCharger y = charger)
        (hwater : usesWater y = water) (hb : s.Begins a n g (usesCharger y) (usesWater y) k ph u) :
        starts charger water k ph u := by
      rw [hcharger, hwater] at hb
      exact hb
    refine ⟨fun hcode hst hcf hsup hw => ?_, fun hcode hcf => ?_, fun hcode hst hw hsup hsel hrest => ?_⟩
    · have hk := orderKind_equalise.mpr hcode
      have huses : usesWater y = thenWater y := by simp [usesWater, y, hk]
      exact hbegins (usesCharger_iff.mpr (.inl hcode)) huses (State.begins_of_request h hk (by decide) (by decide)
        (fun hu => hw (huses ▸ hu)) ⟨_, rfl⟩ (post_equalise_starts h hk hst hcf hsup hw))
    · have hk := orderKind_giveBack.mpr hcode
      have huses : usesWater y = false := by simp [usesWater, thenWater, y, hk]
      exact hbegins (usesCharger_iff.mpr (.inr hcode)) huses (State.begins_of_request h hk (by decide) (by decide)
        (fun hu => absurd (huses.symm.trans hu) (by decide)) ⟨_, rfl⟩ (post_giveBack_starts h hk hcf))
    · have hk := orderKind_water.mpr hcode
      have huses : usesWater y = true := by simp [usesWater, y, hk]
      have hcharger : usesCharger y = false := by simp [usesCharger, y, hk]
      obtain ⟨hlevel, hprime⟩ := post_water_starts h hk hst hw hsup hsel hrest
      exact ⟨fun hlow => hbegins hcharger huses (State.begins_of_request h hk (by decide) (by decide) (fun _ => hw)
        ⟨_, rfl⟩ (hlevel hlow)), fun hlow hv hco => hbegins hcharger huses
          (State.begins_of_prime h hk hw (hprime hlow hv hco))⟩
  · intro q left count t hq
    obtain ⟨hqueue, hslots, hfav⟩ := Engine.dispatch_board e c n k hq
    refine ⟨hqueue, hslots, hfav.trans ?_⟩
    cases (if e.board.favoured = some n then none else e.board.favoured) with
    | some f => rfl
    | none => rfl
  · intro charges waters moved shares hkf hkn
    have hallow : e.favourAllows n = true ↔ ¬ shares :=
      (Engine.favourAllows_behind hf hfn hb).symm ▸ disjointOrders_iff hkf hkn
    refine ⟨fun hshare => ?_, fun hshare hm hneeds c k hfree hkind => ?_⟩
    · have hno : ¬ ((e.slot n).mark = .queued ∧ e.needsMet p n = true ∧ e.favourAllows n = true) :=
        fun ⟨_, _, h⟩ => hallow.mp h hshare
      unfold Engine.walkOne
      split
      · exact if_neg hno
      · rfl
    · simp only [Engine.walkOne, hfree, hkind]
      exact ⟨_, if_pos ⟨hm, hneeds, hallow.mpr hshare⟩⟩

end Sys2Proof.Machine
end

section
/-! SUPPORT. The measurement unit: no work of the blocks changes the clock or the latest sample (R84, R86). -/

namespace Sys2Proof.Machine

/-- What the measurement unit holds: the clock and the latest sample. -/
def Engine.measured (e : Engine) : Clock × Option Sample := (e.clock, e.latest)

/-! ## Records -/

@[simp] theorem Engine.setCtx_measured (e : Engine) (c : CtxId) (r : Option Round) :
    (e.setCtx c r).measured = e.measured := rfl
@[simp] theorem Engine.putRound_measured (e : Engine) (c : CtxId) (r : Round) : (e.putRound c r).measured = e.measured := rfl
@[simp] theorem Engine.modSlot_measured (e : Engine) (n : SlotId) (f : Slot → Slot) :
    (e.modSlot n f).measured = e.measured := rfl
@[simp] theorem Engine.modStr_measured (e : Engine) (g : StringId) (f : StringRec → StringRec) :
    (e.modStr g f).measured = e.measured := rfl
@[simp] theorem Engine.putCell_measured (e : Engine) (g : StringId) (q : Position) (x : Cell) :
    (e.putCell g q x).measured = e.measured := rfl
@[simp] theorem Engine.modLine_measured (e : Engine) (f : Line → Line) : (e.modLine f).measured = e.measured := rfl
@[simp] theorem Engine.modBoard_measured (e : Engine) (f : Board → Board) : (e.modBoard f).measured = e.measured := rfl
@[simp] theorem Engine.hand_measured (e : Engine) (ws : List Work) : (e.hand ws).measured = e.measured := rfl
@[simp] theorem Engine.raise_measured (e : Engine) (ev : Event) : (e.raise ev).measured = e.measured := rfl
@[simp] theorem Engine.holdEntry_measured (e : Engine) (g : StringId) : (e.holdEntry g).measured = e.measured := rfl
@[simp] theorem Engine.openValve_measured (e : Engine) (g : StringId) : (e.openValve g).measured = e.measured := rfl
@[simp] theorem Engine.releaseString_measured (e : Engine) (g : StringId) : (e.releaseString g).measured = e.measured := rfl
@[simp] theorem Engine.putCensus_measured (e : Engine) (g : StringId) (x : Census) (set : PosSet) :
    (e.putCensus g x set).measured = e.measured := rfl
@[simp] theorem Engine.takeClaims_measured (e : Engine) (c : CtxId) (y : Slot) : (e.takeClaims c y).measured = e.measured := rfl
@[simp] theorem Engine.withdrawSweep_measured (e : Engine) (c : CtxId) : (e.withdrawSweep c).measured = e.measured := rfl

/-- What both ways keep, a choice between them keeps. -/
@[simp] theorem Engine.ite_measured (q : Prop) [Decidable q] (a b : Engine) :
    (if q then a else b).measured = if q then a.measured else b.measured := apply_ite Engine.measured q a b

/-- What each piece of a list keeps, the whole keeps. -/
theorem Engine.foldl_measured {α : Type} {f : Engine → α → Engine} (hf : ∀ e x, (f e x).measured = e.measured) (l : List α)
    (e : Engine) : (l.foldl f e).measured = e.measured := by
  induction l generalizing e with
  | nil => rfl
  | cons x l ih => exact (ih _).trans (hf e x)

/-! ## Cells (chapter 4) -/

@[simp] theorem Engine.flagCell_measured (e : Engine) (g : StringId) (q : Position) (f : Byte) :
    (e.flagCell g q f).measured = e.measured := by
  simp [Engine.flagCell]

@[simp] theorem Engine.flagDry_measured (e : Engine) (g : StringId) (set : List Position) :
    (e.flagDry g set).measured = e.measured := by
  have hfold := Engine.foldl_measured (f := fun e q => e.putCell g q ((e.cell g q).setFlags cfDry)) (fun _ _ => rfl) set e
  simp [Engine.flagDry, hfold]

@[simp] theorem Engine.missCell_measured (e : Engine) (g : StringId) (q : Position) :
    (e.missCell g q).measured = e.measured := by
  simp [Engine.missCell]

@[simp] theorem Engine.missAccounting_measured (e : Engine) (missing : AddrSet) :
    (e.missAccounting missing).measured = e.measured := by
  refine Engine.foldl_measured (fun e g => ?_) _ e
  split
  · exact Engine.foldl_measured (fun e q => e.missCell_measured g q) _ e
  · rfl

/-! ## Selectors, charger and water (chapters 6 to 8) -/

@[simp] theorem Engine.requestTransfer_measured (e : Engine) (p : Profile) (c : CtxId) (g : StringId) (b : Bool) (d : Drive) :
    (e.requestTransfer p c g b d).2.measured = e.measured := by
  unfold Engine.requestTransfer
  repeat' split
  all_goals rfl

@[simp] theorem Engine.chargerEnable_measured (e : Engine) (c : CtxId) (v l : Nat) :
    (e.chargerEnable c v l).measured = e.measured := by
  unfold Engine.chargerEnable; split <;> rfl

@[simp] theorem Engine.chargerSet_measured (e : Engine) (c : CtxId) (v : Nat) : (e.chargerSet c v).measured = e.measured := by
  unfold Engine.chargerSet; split <;> rfl

@[simp] theorem Engine.chargerDisable_measured (e : Engine) (c : CtxId) : (e.chargerDisable c).measured = e.measured := by
  unfold Engine.chargerDisable; split <;> rfl

@[simp] theorem Engine.strand_measured (e : Engine) (g : StringId) : (e.strand g).measured = e.measured := by
  unfold Engine.strand; split <;> rfl

@[simp] theorem Engine.closeValve_measured (e : Engine) (p : Profile) : (e.closeValve p).measured = e.measured := by
  unfold Engine.closeValve; split <;> rfl

/-! ## The cell line (chapter 3) -/

@[simp] theorem Engine.faultLine_measured (e : Engine) (p : Profile) (x : LineCause) :
    (e.faultLine p x).measured = e.measured := rfl

@[simp] theorem Engine.startSweep_measured (e : Engine) (p : Profile) : (e.startSweep p).measured = e.measured := by
  unfold Engine.startSweep
  split
  · rfl
  · dsimp only
    split <;> rfl

@[simp] theorem Engine.nextSweep_measured (e : Engine) (p : Profile) : (e.nextSweep p).measured = e.measured := by
  simp [Engine.nextSweep]

@[simp] theorem Engine.requestSweep_measured (e : Engine) (p : Profile) (c : CtxId) (n : SlotId) (m : StringMask) (u : Purpose) :
    (e.requestSweep p c n m u).measured = e.measured := by
  unfold Engine.requestSweep
  split
  case h_5 =>
    rw [Engine.ite_measured, Engine.startSweep_measured, ite_self]
    rfl
  all_goals rfl

@[simp] theorem Engine.afterGuardFailed_measured (e : Engine) (p : Profile) :
    (e.afterGuardFailed p).measured = e.measured := by
  simp [Engine.afterGuardFailed]

@[simp] theorem Engine.afterSweep_measured (e : Engine) (p : Profile) (silent : Bool) :
    (e.afterSweep p silent).measured = e.measured := by simp [Engine.afterSweep]

@[simp] theorem Engine.deliverSweep_measured (e : Engine) (w : Sweep) (silent : Bool) :
    (e.deliverSweep w silent).measured = e.measured := by
  simp only [Engine.deliverSweep, Engine.hand_measured, Engine.missAccounting_measured, Engine.modLine_measured]
  split <;> rfl

@[simp] theorem Engine.endSweep_measured (e : Engine) (p : Profile) (w : Sweep) :
    (e.endSweep p w).measured = e.measured := by
  simp [Engine.endSweep]

@[simp] theorem Engine.badFrame_measured (e : Engine) (p : Profile) : (e.badFrame p).measured = e.measured := by
  rw [Engine.badFrame, Engine.ite_measured, Engine.faultLine_measured, ite_self, Engine.modLine_measured]

@[simp] theorem Engine.storeReading_measured (e : Engine) (p : Profile) (w : Sweep) (r : Reading) (q : Position) :
    (e.storeReading p w r q).measured = e.measured := by simp [Engine.storeReading]

@[simp] theorem Engine.goodReply_measured (e : Engine) (p : Profile) (w : Sweep) (r : Reading) (q : Position) :
    (e.goodReply p w r q).measured = e.measured := by
  simp [Engine.goodReply]

@[simp] theorem Engine.soundFrame_measured (e : Engine) (p : Profile) (r : Reading) :
    (e.soundFrame p r).measured = e.measured := by
  unfold Engine.soundFrame
  split
  · split
    · exact e.goodReply_measured p _ r _
    · rfl
  · rfl

@[simp] theorem Engine.received_measured (e : Engine) (p : Profile) (bytes : List Byte) :
    (e.received p bytes).measured = e.measured := by
  unfold Engine.received Engine.classify
  split
  · split
    · split <;> simp
    · simp
  · rfl

/-! ## The board (chapter 2) -/

@[simp] theorem Engine.refavour_measured (e : Engine) : e.refavour.measured = e.measured := by
  rw [Engine.refavour_eq]; rfl

@[simp] theorem Engine.leaveQueue_measured (e : Engine) (n : SlotId) : (e.leaveQueue n).measured = e.measured := by
  simp [Engine.leaveQueue]

@[simp] theorem Engine.countPassed_measured (e : Engine) (l : List SlotId) : (e.countPassed l).measured = e.measured :=
  (Engine.refavour_measured _).trans (Engine.foldl_measured (f := fun e m => e.modSlot m fun x => { x with passOver := bump 8 x.passOver }) (fun _ _ => rfl) l e)

@[simp] theorem Engine.dispatch_measured (e : Engine) (c : CtxId) (n : SlotId) (k : Kind) :
    (e.dispatch c n k).measured = e.measured := by simp [Engine.dispatch]

@[simp] theorem Engine.walkOne_measured (e : Engine) (p : Profile) (n : SlotId) (rest : List SlotId) :
    (e.walkOne p n rest).measured = e.measured := by
  unfold Engine.walkOne
  split
  · split <;> simp
  · rfl

@[simp] theorem Engine.settleQueued_measured (e : Engine) (n : SlotId) (o : OrderOutcome) (x : Cause) :
    (e.settleQueued n o x).measured = e.measured := by simp [Engine.settleQueued]

@[simp] theorem Engine.releasePath_measured (e : Engine) (p : Profile) (c : CtxId) :
    (e.releasePath p c).measured = e.measured := by
  unfold Engine.releasePath
  split
  · exact e.closeValve_measured p
  · rfl

@[simp] theorem Engine.freeContext_measured (e : Engine) (p : Profile) (c : CtxId) :
    (e.freeContext p c).measured = e.measured :=
  ((e.chargerDisable c).releasePath_measured p c).trans (e.chargerDisable_measured c)

@[simp] theorem Engine.endStandDown_measured (e : Engine) : e.endStandDown.measured = e.measured := by
  simp [Engine.endStandDown]

@[simp] theorem Engine.finish_measured (e : Engine) (p : Profile) (c : CtxId) (r : Round) :
    (e.finish p c r).measured = e.measured := by simp [Engine.finish]

@[simp] theorem Engine.releaseCharger_measured (e : Engine) (c : CtxId) : (e.releaseCharger c).measured = e.measured := by
  have hkeep (f : Engine) (k : Claims) : ({ f with claims := k } : Engine).measured = f.measured := rfl
  simp [Engine.releaseCharger, hkeep]

@[simp] theorem Engine.censusReport_measured (e : Engine) (g : StringId) : (e.censusReport g).measured = e.measured := by
  unfold Engine.censusReport; split <;> simp

@[simp] theorem Engine.standDownNext_measured (e : Engine) : e.standDownNext.measured = e.measured := by
  unfold Engine.standDownNext; split <;> simp

@[simp] theorem Engine.standDownCheck_measured (e : Engine) : e.standDownCheck.measured = e.measured := by
  simp [Engine.standDownCheck]

/-! ## Rounds: EQUALISE and RETURN (chapter 7) -/

@[simp] theorem Engine.primaryHistory_measured (e : Engine) (p : Profile) (r : Round) (g : StringId) (o : Outcome) :
    (e.primaryHistory p r g o).measured = e.measured := by
  simp [Engine.primaryHistory]

@[simp] theorem Engine.closePrimary_measured (e : Engine) (p : Profile) (c : CtxId) (r : Round) (g : StringId) (o : Outcome) :
    (e.closePrimary p c r g o).measured = e.measured := by
  simp [Engine.closePrimary]

@[simp] theorem Engine.closeCurrent_measured (e : Engine) (p : Profile) (c : CtxId) (r : Round) (o : Outcome) :
    (e.closeCurrent p c r o).measured = e.measured := by
  unfold Engine.closeCurrent; split <;> simp

@[simp] theorem Engine.closeStranded_measured (e : Engine) (p : Profile) (c : CtxId) (r : Round) :
    (e.closeStranded p c r).measured = e.measured := by
  unfold Engine.closeStranded; split <;> simp

@[simp] theorem Engine.closeFaulted_measured (e : Engine) (p : Profile) (c : CtxId) (r : Round) :
    (e.closeFaulted p c r).measured = e.measured := by simp [Engine.closeFaulted]

@[simp] theorem Engine.askTransfer_measured (e : Engine) (p : Profile) (c : CtxId) (r : Round) (b : Bool) (d : Drive) :
    (e.askTransfer p c r b d).2.measured = e.measured := by
  unfold Engine.askTransfer; split <;> simp

/-- Whatever the answer to a transfer request, what follows keeps what it kept. -/
theorem Engine.askTransfer_keeps {e : Engine} {p : Profile} {c : CtxId} {r : Round} {b : Bool} {d : Drive}
    {a : Answer} {f : Engine} (h : e.askTransfer p c r b d = (a, f)) : f.measured = e.measured := by
  rw [← e.askTransfer_measured p c r b d, h]

@[simp] theorem Engine.toLoad_measured (e : Engine) (p : Profile) (c : CtxId) (r : Round) :
    (e.toLoad p c r).measured = e.measured := by
  unfold Engine.toLoad
  dsimp only
  split <;> rename_i h <;> simp [Engine.askTransfer_keeps h]

@[simp] theorem Engine.returnFromOpen_measured (e : Engine) (p : Profile) (c : CtxId) (r : Round) :
    (e.returnFromOpen p c r).measured = e.measured := e.toLoad_measured p c _

@[simp] theorem Engine.enterReturning_measured (e : Engine) (p : Profile) (c : CtxId) (r : Round) (b : Bool) :
    (e.enterReturning p c r b).measured = e.measured := by
  unfold Engine.enterReturning
  dsimp only
  split <;> rename_i h <;> simp [Engine.askTransfer_keeps h]

@[simp] theorem Engine.strandingReturn_measured (e : Engine) (p : Profile) (c : CtxId) (r : Round) :
    (e.strandingReturn p c r).measured = e.measured := by simp [Engine.strandingReturn]

@[simp] theorem Engine.enterMatch_measured (e : Engine) (c : CtxId) (r : Round) :
    (e.enterMatch c r).measured = e.measured := by simp [Engine.enterMatch]

@[simp] theorem Engine.endIntoMatch_measured (e : Engine) (c : CtxId) (r : Round) (o : Outcome) :
    (e.endIntoMatch c r o).measured = e.measured := by simp [Engine.endIntoMatch]

@[simp] theorem Engine.enterIsolating_measured (e : Engine) (p : Profile) (c : CtxId) (r : Round) :
    (e.enterIsolating p c r).measured = e.measured := by
  unfold Engine.enterIsolating
  dsimp only
  split
  · rfl
  · rename_i g _
    have hkeeps := e.requestTransfer_measured p c g true .opened
    split <;> rename_i h <;> rw [h] at hkeeps <;> simp [hkeeps]

@[simp] theorem Engine.enterPrecharge_measured (e : Engine) (c : CtxId) (r : Round) :
    (e.enterPrecharge c r).measured = e.measured := by simp [Engine.enterPrecharge]

@[simp] theorem Engine.giveUpReturn_measured (e : Engine) (p : Profile) (c : CtxId) (r : Round) :
    (e.giveUpReturn p c r).measured = e.measured := by simp [Engine.giveUpReturn]

@[simp] theorem Engine.enterConnecting_measured (e : Engine) (p : Profile) (c : CtxId) (r : Round) :
    (e.enterConnecting p c r).measured = e.measured := by
  unfold Engine.enterConnecting
  dsimp only
  split <;> rename_i h
  · simp [Engine.askTransfer_keeps h]
  · split <;> simp [Engine.askTransfer_keeps h]

@[simp] theorem Engine.enterRamp_measured (e : Engine) (p : Profile) (c : CtxId) (r : Round) :
    (e.enterRamp p c r).measured = e.measured := by simp [Engine.enterRamp]

@[simp] theorem Engine.sweepCurrent_measured (e : Engine) (p : Profile) (c : CtxId) (r : Round) (u : Purpose) :
    (e.sweepCurrent p c r u).measured = e.measured := by
  unfold Engine.sweepCurrent; split <;> simp

@[simp] theorem Engine.enterHold_measured (e : Engine) (p : Profile) (c : CtxId) (r : Round) :
    (e.enterHold p c r).measured = e.measured := by
  unfold Engine.enterHold; split <;> simp

@[simp] theorem Engine.dueHoldSweep_measured (e : Engine) (p : Profile) (c : CtxId) (r : Round) :
    (e.dueHoldSweep p c r).measured = e.measured := by
  simp [Engine.dueHoldSweep]

@[simp] theorem Engine.judgeHold_measured (e : Engine) (c : CtxId) (r : Round) :
    (e.judgeHold c r).measured = e.measured := by
  simp [Engine.judgeHold]

@[simp] theorem Engine.beginString_measured (e : Engine) (p : Profile) (c : CtxId) (r : Round) (g : StringId) :
    (e.beginString p c r g).measured = e.measured := by
  simp [Engine.beginString]

/-! ## Rounds: watering (chapter 8) -/

@[simp] theorem Engine.closeWater_measured (e : Engine) (c : CtxId) (r : Round) (o : Outcome) :
    (e.closeWater c r o).measured = e.measured := by
  unfold Engine.closeWater
  split
  · rfl
  · split_ifs <;> rfl

@[simp] theorem Engine.enterPrime_measured (e : Engine) (c : CtxId) (r : Round) :
    (e.enterPrime c r).measured = e.measured := by
  unfold Engine.enterPrime
  dsimp only
  split
  all_goals simp

@[simp] theorem Engine.beginWater_measured (e : Engine) (p : Profile) (c : CtxId) (r : Round) (g : StringId) :
    (e.beginWater p c r g).measured = e.measured := by
  simp [Engine.beginWater]

@[simp] theorem Engine.chooseWater_measured (e : Engine) (p : Profile) (c : CtxId) (r : Round) :
    (e.chooseWater p c r).measured = e.measured := by
  unfold Engine.chooseWater; split <;> simp

@[simp] theorem Engine.endPrimary_measured (e : Engine) (p : Profile) (c : CtxId) (r : Round) :
    (e.endPrimary p c r).measured = e.measured := by
  simp [Engine.endPrimary]

@[simp] theorem Engine.advance_measured (e : Engine) (p : Profile) (c : CtxId) (r : Round) :
    (e.advance p c r).measured = e.measured := by
  unfold Engine.advance
  split
  · simp
  · split
    · simp
    · split <;> simp

/-! ## Rounds: SURVEY (section 4.7) -/

@[simp] theorem Engine.enterCensus_measured (e : Engine) (p : Profile) (c : CtxId) (r : Round) :
    (e.enterCensus p c r).measured = e.measured := by
  simpa [Engine.enterCensus] using Engine.foldl_measured (f := fun e g => e.putCensus g .provisional 0) (fun _ _ => rfl) _ e

@[simp] theorem Engine.beginRound_measured (e : Engine) (p : Profile) (c : CtxId) (r : Round) :
    (e.beginRound p c r).measured = e.measured := by
  unfold Engine.beginRound
  split
  · split <;> simp
  · split <;> simp
  · simp

@[simp] theorem Engine.abortSurvey_measured (e : Engine) (c : CtxId) (r : Round) :
    (e.abortSurvey c r).measured = e.measured :=
  Engine.foldl_measured (f := fun e g => e.putCensus g .unknown 0) (fun _ _ => rfl) _ _

theorem Engine.censusString_measured (e : Engine) (p : Profile) (k : Nat) (r : Round) (g : StringId) (got : PosSet) :
    (e.censusString p k r g got).2.1.measured = e.measured := by
  unfold Engine.censusString; split_ifs <;> simp

theorem Engine.censusStrings_measured (p : Profile) (k : Nat) (replied : AddrSet) (l : List StringId) (r : Round) (e : Engine)
    (ws : List Work) : (Engine.censusStrings p k replied l (r, e, ws)).2.1.measured = e.measured := by
  induction l generalizing r e ws with
  | nil => rfl
  | cons g l ih => exact (ih _ _ _).trans (e.censusString_measured p k r g _)

@[simp] theorem Engine.censusCompletion_measured (e : Engine) (p : Profile) (c : CtxId) (r : Round) (q : Request)
    (replied : AddrSet) : (e.censusCompletion p c r q replied).measured = e.measured := by
  have h := Engine.censusStrings_measured p (sweepLimit (e.slot r.slot)) replied (stringsOf q.mask) r e []
  unfold Engine.censusCompletion
  dsimp only
  split <;> simp [h]

@[simp] theorem Engine.surveyCompletion_measured (e : Engine) (p : Profile) (c : CtxId) (r : Round) :
    (e.surveyCompletion p c r).measured = e.measured := by
  simp [Engine.surveyCompletion]

/-! ## Site causes (R35) -/

@[simp] theorem Engine.endFill_measured (e : Engine) (p : Profile) (c : CtxId) (r : Round) (o : Outcome) :
    (e.endFill p c r o).measured = e.measured := by simp [Engine.endFill]

@[simp] theorem Engine.bringToRest_measured (e : Engine) (p : Profile) (c : CtxId) (r : Round) (x : Cause) :
    (e.bringToRest p c r x).measured = e.measured := by
  unfold Engine.bringToRest
  split <;> simp

@[simp] theorem Engine.takeCause_measured (e : Engine) (p : Profile) (c : CtxId) (r : Round) (x : Cause) :
    (e.takeCause p c r x).measured = e.measured := by
  simp [Engine.takeCause]

/-! ## Completions and notices -/

@[simp] theorem Engine.checkCompletion_measured (e : Engine) (p : Profile) (c : CtxId) (r : Round) (g : StringId)
    (missing : AddrSet) : (e.checkCompletion p c r g missing).measured = e.measured := by
  simp [Engine.checkCompletion]

@[simp] theorem Engine.holdOn_measured (e : Engine) (p : Profile) (c : CtxId) (r : Round) (g : StringId) :
    (e.holdOn p c r g).measured = e.measured := by
  simp [Engine.holdOn]

@[simp] theorem Engine.holdCompletion_measured (e : Engine) (p : Profile) (c : CtxId) (r : Round) (g : StringId) :
    (e.holdCompletion p c r g).measured = e.measured := by
  simp [Engine.holdCompletion]

@[simp] theorem Engine.estimateCompletion_measured (e : Engine) (p : Profile) (c : CtxId) (r : Round) (g : StringId)
    (replied : AddrSet) : (e.estimateCompletion p c r g replied).measured = e.measured := by
  simp [Engine.estimateCompletion]

@[simp] theorem Engine.levelCompletion_measured (e : Engine) (c : CtxId) (r : Round) (g : StringId) (missing : AddrSet) :
    (e.levelCompletion c r g missing).measured = e.measured := by
  simp [Engine.levelCompletion]

@[simp] theorem Engine.verifyCompletion_measured (e : Engine) (c : CtxId) (r : Round) (g : StringId)
    (replied missing : AddrSet) : (e.verifyCompletion c r g replied missing).measured = e.measured := by
  simp [Engine.verifyCompletion]

@[simp] theorem Engine.failedSweep_measured (e : Engine) (p : Profile) (c : CtxId) (r : Round) (u : Purpose) :
    (e.failedSweep p c r u).measured = e.measured := by
  unfold Engine.failedSweep; split <;> simp

@[simp] theorem Engine.completeSweep_measured (e : Engine) (p : Profile) (c : CtxId) (r : Round) (q : Request)
    (replied missing : AddrSet) : (e.completeSweep p c r q replied missing).measured = e.measured := by
  unfold Engine.completeSweep; split <;> simp

/-- What is done with a context's round keeps what it keeps for every round. -/
theorem Engine.withRound_measured {e : Engine} {c : CtxId} {n : SlotId} {f : Round → Engine → Engine}
    (hf : ∀ r, (f r e).measured = e.measured) : (e.withRound c n f).measured = e.measured := by
  unfold Engine.withRound
  split
  · split
    · exact hf _
    · rfl
  · rfl

@[simp] theorem Engine.completion_measured (e : Engine) (p : Profile) (q : Request) (ok : Bool) (replied missing : AddrSet) :
    (e.completion p q ok replied missing).measured = e.measured :=
  Engine.withRound_measured fun r => by simp

@[simp] theorem Engine.transferDone_measured (e : Engine) (p : Profile) (c : CtxId) (r : Round) (d : Drive) :
    (e.transferDone p c r d).measured = e.measured := by
  unfold Engine.transferDone
  split
  · split <;> simp
  · split_ifs
    · simp
    · dsimp only
      split <;> rename_i h <;> simp [Engine.askTransfer_keeps h]
    · simp
  · simp
  · split <;> simp
  · simp
  · rfl

@[simp] theorem Engine.faultNotice_measured (e : Engine) (p : Profile) (c : CtxId) (r : Round) :
    (e.faultNotice p c r).measured = e.measured := by
  unfold Engine.faultNotice
  split <;> simp

@[simp] theorem Engine.restOver_measured (e : Engine) (p : Profile) (c : CtxId) (r : Round) :
    (e.restOver p c r).measured = e.measured := by
  simp [Engine.restOver]

/-! ## Arrivals (chapter 5) -/

@[simp] theorem Engine.qualify_measured (e : Engine) (p : Profile) (time : Nat) :
    (e.qualify p time).measured = e.measured := by
  unfold Engine.qualify; dsimp only; split <;> rfl

@[simp] theorem Engine.chargerArrival_measured (e : Engine) (prev : Lines) :
    (e.chargerArrival prev).measured = e.measured := by
  simp [Engine.chargerArrival]

@[simp] theorem Engine.boardArrival_measured (e : Engine) (prev : Lines) : (e.boardArrival prev).measured = e.measured := by
  simp [Engine.boardArrival]

@[simp] theorem Engine.emptyPath_measured (e : Engine) (p : Profile) : (e.emptyPath p).measured = e.measured :=
  e.closeValve_measured p

@[simp] theorem Engine.refillPath_measured (e : Engine) : e.refillPath.measured = e.measured := rfl

@[simp] theorem Engine.waterArrival_measured (e : Engine) (p : Profile) (prev : Lines) :
    (e.waterArrival p prev).measured = e.measured := by
  simp [Engine.waterArrival]

@[simp] theorem Engine.prechargeSample_measured (e : Engine) (p : Profile) (c : CtxId) (r : Round) (x : Sample) :
    (e.prechargeSample p c r x).measured = e.measured := by
  simp [Engine.prechargeSample]

@[simp] theorem Engine.rampSample_measured (e : Engine) (p : Profile) (c : CtxId) (r : Round) (x : Sample) :
    (e.rampSample p c r x).measured = e.measured := by
  simp [Engine.rampSample]

@[simp] theorem Engine.holdSample_measured (e : Engine) (c : CtxId) (r : Round) (x : Sample) :
    (e.holdSample c r x).measured = e.measured := e.judgeHold_measured c _

@[simp] theorem Engine.matchSample_measured (e : Engine) (p : Profile) (c : CtxId) (r : Round) (x : Sample) :
    (e.matchSample p c r x).measured = e.measured := by
  simp [Engine.matchSample]

@[simp] theorem Engine.ctxArrival_measured (e : Engine) (p : Profile) (c : CtxId) :
    (e.ctxArrival p c).measured = e.measured := by
  unfold Engine.ctxArrival
  split
  · split <;> simp
  · rfl

@[simp] theorem Engine.arrival_measured (e : Engine) (p : Profile) (k : Consumer) (prev : Lines) :
    (e.arrival p k prev).measured = e.measured := by
  cases k <;> simp [Engine.arrival]

/-! ## Any work -/

/-- No piece of work changes the clock or the latest sample. -/
@[simp] theorem Engine.work_measured (e : Engine) (p : Profile) (w : Work) : (e.work p w).measured = e.measured := by
  cases w with
  | scan => simp only [Engine.work]; split <;> rfl
  | walk l => cases l <;> simp [Engine.work]
  | beginRound c n => exact Engine.withRound_measured fun r => e.beginRound_measured p c r
  | arrival k prev => exact e.arrival_measured p k prev
  | cause c n x => exact Engine.withRound_measured fun r => e.takeCause_measured p c r x
  | completion q ok replied missing => exact e.completion_measured p q ok replied missing
  | received bytes => exact e.received_measured p bytes
  | guardFailed => exact e.afterGuardFailed_measured p
  | sweepDone silent => exact e.afterSweep_measured p silent
  | transferDone c n g d => exact Engine.withRound_measured fun r => by split <;> simp
  | faultNotice c n g => exact Engine.withRound_measured fun r => by split <;> simp
  | censusLost g => exact e.censusReport_measured g
  | standDownNext => exact e.standDownNext_measured
  | standDownCheck => exact e.standDownCheck_measured
  | advance c n => exact Engine.withRound_measured fun r => e.advance_measured p c r
  | restOver c n => exact Engine.withRound_measured fun r => e.restOver_measured p c r

theorem Engine.drain_measured (p : Profile) (k : Nat) (e : Engine) : (Engine.drain p k e).measured = e.measured := by
  induction k generalizing e with
  | zero => rfl
  | succ k ih =>
    cases ha : e.agenda with
    | nil => rw [Engine.drain_nil p _ e ha]
    | cons w ws =>
      have hne : e.agenda ≠ [] := by rw [ha]; exact List.cons_ne_nil _ _
      rw [Engine.drain_succ p k e hne, ih]
      simp only [Engine.workNext, ha, Engine.work_measured]
      rfl

end Sys2Proof.Machine
end

section
/-! SUPPORT. A sample and its arrivals, one consumer after another (R84 to R87, R144). -/

namespace Sys2Proof.Machine

/-! ## The sample that is held (R85, R86) -/

theorem sampleOf_eqAmps (now : Clock) (r : Readings) : ((sampleOf now r).eqAmps : Int)
    = if r.eqAmps < 0 then 0 else if 2000 < r.eqAmps then 2000 else r.eqAmps := by
  have hcast : ((sampleOf now r).eqAmps : Int) = max 0 (min 2000 r.eqAmps) := Int.toNat_of_nonneg (le_max_left _ _)
  rw [hcast]
  split_ifs <;> omega

/-- Whatever the blocks do keeps the clock and the latest sample that they begin with. -/
theorem State.act_measured (s : State) (f : Engine → Engine) : (s.act f).eng.measured = (f s.eng).measured :=
  Engine.drain_measured s.profile Config.workBudget (f s.eng)

/-- The sample that is held after SAMPLE, whatever the order of its consumers. -/
theorem exec_sample_latest {s : State} {r : Readings} {order : List Consumer} (hs : s.awake = true) :
    ∃ t, exec (.sample r order) s = .next t ∧ t.eng.latest = some (sampleOf t.eng.clock r) := by
  let t := s.settleQualifier.act fun e => e.takeSample s.profile r order
  have hm : t.eng.measured = (s.settleQualifier.eng.takeSample s.profile r order).measured := State.act_measured _ _
  have hclock : t.eng.clock = (s.settleQualifier.eng.takeSample s.profile r order).clock := congrArg Prod.fst hm
  have hlatest : t.eng.latest = (s.settleQualifier.eng.takeSample s.profile r order).latest := congrArg Prod.snd hm
  refine ⟨t, congrArg Host.Outcome.next (if_pos hs), ?_⟩
  rw [hlatest, hclock]
  rfl

/-! ## A sample in the model's default order (log 10, log 11) -/

/-- The clock after a sample's advance (R93). -/
def Engine.sampleTime (e : Engine) : Clock := if e.advanceTaken then e.clock else e.clock + 1

/-- The blocks as a sample leaves them before its consumers take it; the qualifier takes it later (R86, R89). -/
def Engine.sampled (e : Engine) (p : Profile) (r : Readings) : Engine :=
  { e with
    clock := e.sampleTime, advanceTaken := false, latest := some (sampleOf e.sampleTime r),
    qualifierOwed := some (fieldNat p fldQualify) }

/-- The arrival of the latest sample at the contexts given, in turn. -/
def ctxArrivals (prev : Lines) (l : List CtxId) : List Work := l.map fun c => .arrival (.context c) prev

/-- The arrivals of a sample in the model's default order. -/
def arrivals (prev : Lines) : List Work :=
  .arrival .charger prev :: .arrival .water prev :: (ctxArrivals prev allCtxs ++ [.arrival .board prev])

theorem Engine.takeSample_default (e : Engine) (p : Profile) (r : Readings) :
    e.takeSample p r [] = (e.sampled p r).hand (arrivals (latestLines e.latest)) := rfl

/-- What a sample leads to, where the qualifier owes none. -/
theorem exec_sample_leads {s : State} {r : Readings} {k : Nat} {e : Engine} (hs : s.attending)
    (hq : s.eng.qualifierOwed = none)
    (hl : ((s.eng.sampled s.profile r).hand (arrivals (latestLines s.eng.latest))).Leads s.profile k e) (hk : k ≤ 1000)
    (hw : e.agenda = []) :
    exec (.sample r []) s
      = .next { s with eng := { e with raised := [] }, alert := e.raised.foldl Alert.capture s.alert } := by
  have hsettled : s.settleQualifier = s := by simp [State.settleQualifier, hq]
  have hawake : s.awake = true := hs.1
  refine congrArg Host.Outcome.next ((if_pos hawake).trans ?_)
  rw [hsettled]
  exact State.act_leads (f := fun e => e.takeSample s.profile r []) hl hk hw

/-- As before, where no event is handed. -/
theorem exec_sample_quiet {s : State} {r : Readings} {k : Nat} {e : Engine} (hs : s.attending)
    (hq : s.eng.qualifierOwed = none)
    (hl : ((s.eng.sampled s.profile r).hand (arrivals (latestLines s.eng.latest))).Leads s.profile k e) (hk : k ≤ 1000)
    (hw : e.agenda = []) (hr : e.raised = []) : exec (.sample r []) s = .next { s with eng := e } := by
  rw [exec_sample_leads hs hq hl hk hw, hr]
  simp only [List.foldl_nil]
  rw [show ({ e with raised := [] } : Engine) = e by rw [← hr]]

/-! ## The charger port and the board (R87) -/

/-- With no rise of CHG_FAULT, the charger port does nothing. -/
theorem Engine.leads_charger_quiet (e : Engine) (p : Profile) {prev : Lines} (ws : List Work)
    (h : (latestLines e.latest).chgFault = true → prev.chgFault = true) :
    (e.hand (.arrival .charger prev :: ws)).Leads p 1 (e.hand ws) := by
  refine .step ?_ (.refl p _)
  have hno : ¬ ((latestLines e.latest).chgFault && !prev.chgFault) = true := by
    rw [Bool.and_eq_true, Bool.not_eq_true']
    exact fun ⟨hnow, hwas⟩ => absurd ((h hnow).symm.trans hwas) (by decide)
  exact if_neg hno

/-- A rise of CHG_FAULT is a cause to the charger's holder. -/
theorem Engine.leads_charger_rise (e : Engine) (p : Profile) {prev : Lines} (ws : List Work)
    (hnow : (latestLines e.latest).chgFault = true) (hwas : prev.chgFault = false) :
    (e.hand (.arrival .charger prev :: ws)).Leads p 1
      (e.hand (e.causeToHolder e.claims.charger .chargerFault ++ ws)) := by
  refine .step ?_ (.refl p _)
  have hyes : ((latestLines e.latest).chgFault && !prev.chgFault) = true := by rw [hnow, hwas]; rfl
  exact (if_pos hyes).trans (Engine.hand_hand e _ ws)

/-- With no fall of CHG_FAULT, the board does nothing. -/
theorem Engine.leads_board_quiet (e : Engine) (p : Profile) {prev : Lines} (ws : List Work)
    (h : prev.chgFault = true → (latestLines e.latest).chgFault = true) :
    (e.hand (.arrival .board prev :: ws)).Leads p 1 (e.hand ws) := by
  refine .step ?_ (.refl p _)
  have hno : ¬ (!(latestLines e.latest).chgFault && prev.chgFault) = true := by
    rw [Bool.and_eq_true, Bool.not_eq_true']
    exact fun ⟨hnow, hwas⟩ => absurd ((h hwas).symm.trans hnow) (by decide)
  exact if_neg hno

/-- A fall of CHG_FAULT runs a dispatch scan. -/
theorem Engine.leads_board_fall (e : Engine) (p : Profile) {prev : Lines} (ws : List Work)
    (hnow : (latestLines e.latest).chgFault = false) (hwas : prev.chgFault = true) :
    (e.hand (.arrival .board prev :: ws)).Leads p 1 (e.hand (.scan :: ws)) := by
  refine .step ?_ (.refl p _)
  have hyes : (!(latestLines e.latest).chgFault && prev.chgFault) = true := by rw [hnow, hwas]; rfl
  exact (if_pos hyes).trans (Engine.hand_hand e _ ws)

/-! ## The water path (R144) -/

/-- With no rise of a reservoir line, none empty and the path not EMPTY, the water path does nothing. -/
theorem Engine.leads_water_quiet (e : Engine) (p : Profile) {prev : Lines} (ws : List Work)
    (hlow : (latestLines e.latest).resLow = prev.resLow) (hempty : (latestLines e.latest).resEmpty = false)
    (hs : e.water.state ≠ .empty) : (e.hand (.arrival .water prev :: ws)).Leads p 1 (e.hand ws) := by
  refine .step ?_ (.refl p _)
  have hrise : (prev.resLow && !prev.resLow) = false := by cases prev.resLow <;> rfl
  simp only [Engine.work, Engine.arrival, Engine.waterArrival, Engine.hand_latest, Engine.hand_water, hlow, hempty, hrise,
    Bool.false_and, Bool.false_eq_true, if_false, if_neg hs]

/-! ## The contexts (R84) -/

/-- A context that is free takes no arrival. -/
theorem Engine.ctxArrival_idle {e : Engine} (p : Profile) {c : CtxId} (h : e.ctx c = none) : e.ctxArrival p c = e := by
  simp only [Engine.ctxArrival, h]

/-- A phase that no sample concerns. -/
def Phase.ignoresSamples (ph : Phase) : Prop := ph ≠ .precharge ∧ ph ≠ .ramp ∧ ph ≠ .hold ∧ ph ≠ .matching

/-- A context in such a phase takes no arrival. -/
theorem Engine.ctxArrival_ignored {e : Engine} (p : Profile) {c : CtxId} {r : Round} (h : e.ctx c = some r)
    (hp : r.phase.ignoresSamples) : e.ctxArrival p c = e := by
  obtain ⟨hprecharge, hramp, hhold, hmatch⟩ := hp
  unfold Engine.ctxArrival
  split
  · rename_i r' x hr hx
    obtain rfl : r' = r := Option.some.inj (hr.symm.trans h)
    split
    case h_1 hph => exact absurd hph hprecharge
    case h_2 hph => exact absurd hph hramp
    case h_3 hph => exact absurd hph hhold
    case h_4 hph => exact absurd hph hmatch
    case h_5 => rfl
  · rfl

/-- Contexts that do nothing with the sample, one after another. -/
theorem Engine.leads_ctxs_quiet (e : Engine) (p : Profile) (prev : Lines) (ws : List Work) (l : List CtxId)
    (h : ∀ c ∈ l, ∀ vs, (e.hand vs).ctxArrival p c = e.hand vs) :
    (e.hand (ctxArrivals prev l ++ ws)).Leads p l.length (e.hand ws) := by
  induction l with
  | nil => exact .refl p _
  | cons c l ih =>
    exact .step (h c List.mem_cons_self _) (ih fun d hd => h d (List.mem_cons_of_mem _ hd))

theorem allCtxs_split (c : CtxId) :
    allCtxs = allCtxs.take c.val ++ c :: allCtxs.drop (c.val + 1) ∧ (∀ d ∈ allCtxs.take c.val, d ≠ c)
      ∧ ∀ d ∈ allCtxs.drop (c.val + 1), d ≠ c := by
  revert c; decide

/-- Context `c` does this with the sample, and the others nothing. -/
theorem Engine.leads_ctxs (e : Engine) (p : Profile) {f : Engine} (prev : Lines) (ws : List Work) {c : CtxId}
    (hbefore : ∀ d, d ≠ c → e.ctx d = none) (hafter : ∀ d, d ≠ c → f.ctx d = none)
    (hc : ∀ vs, (e.hand vs).ctxArrival p c = f.hand vs) :
    (e.hand (ctxArrivals prev allCtxs ++ ws)).Leads p 4 (f.hand ws) := by
  obtain ⟨hsplit, hfirst, hlast⟩ := allCtxs_split c
  have hlist : ctxArrivals prev allCtxs ++ ws
      = ctxArrivals prev (allCtxs.take c.val) ++ (.arrival (.context c) prev
          :: (ctxArrivals prev (allCtxs.drop (c.val + 1)) ++ ws)) := by
    conv_lhs => rw [hsplit]
    simp [ctxArrivals]
  have hlen : (allCtxs.take c.val).length + ((allCtxs.drop (c.val + 1)).length + 1) = 4 := by
    have := congrArg List.length hsplit
    simp only [List.length_append, List.length_cons] at this
    exact this.symm
  rw [hlist]
  refine Engine.Leads.mono ?_ hlen.le
  exact (e.leads_ctxs_quiet p prev _ _ fun d hd vs => Engine.ctxArrival_idle p (hbefore d (hfirst d hd))).trans
    (.step (hc _) (f.leads_ctxs_quiet p prev ws _ fun d hd vs =>
      Engine.ctxArrival_idle p (hafter d (hlast d hd))))

/-- All contexts are free: none takes the sample. -/
theorem Engine.leads_ctxs_idle (e : Engine) (p : Profile) (prev : Lines) (ws : List Work) (h : ∀ c, e.ctx c = none) :
    (e.hand (ctxArrivals prev allCtxs ++ ws)).Leads p 4 (e.hand ws) :=
  e.leads_ctxs p (c := 0) prev ws (fun d _ => h d) (fun d _ => h d) fun _ => Engine.ctxArrival_idle p (h 0)

end Sys2Proof.Machine
end

section
/-! SUPPORT. A busy context takes a sample by its phase (R92, R121 to R129). -/

namespace Sys2Proof.Machine

/-! ## The context alone takes the sample -/

/-- A sample with no change of a line of the site, on a part where one context is busy: what that context does is all. -/
theorem exec_sample_ctx {s : State} {r : Readings} {c : CtxId} {e : Engine} (hs : s.attending)
    (hq : s.eng.qualifierOwed = none) (hbusy : s.onlyBusy c)
    (hfault : r.chgFault = (latestLines s.eng.latest).chgFault) (hlow : r.resLow = (latestLines s.eng.latest).resLow)
    (hempty : r.resEmpty = false) (hwater : s.eng.water.state ≠ .empty)
    (hc : ∀ vs, ((s.eng.sampled s.profile r).hand vs).ctxArrival s.profile c = e.hand vs)
    (hafter : ∀ d, d ≠ c → e.ctx d = none) (hw : e.agenda = []) (hr : e.raised = []) :
    exec (.sample r []) s = .next { s with eng := e } := by
  have hkeeps : e.measured = (s.eng.sampled s.profile r).measured :=
    (congrArg Engine.measured (hc [])).symm.trans (Engine.ctxArrival_measured _ _ _)
  have hline : (latestLines e.latest).chgFault = r.chgFault :=
    congrArg (fun x : Clock × Option Sample => (latestLines x.2).chgFault) hkeeps
  let kept := s.eng.sampled s.profile r
  let was := latestLines s.eng.latest
  have hcharger := kept.leads_charger_quiet (prev := was) s.profile
    (.arrival .water was :: (ctxArrivals was allCtxs ++ [.arrival .board was])) fun h => hfault ▸ h
  have hpath := kept.leads_water_quiet (prev := was) s.profile (ctxArrivals was allCtxs ++ [.arrival .board was]) hlow hempty
    hwater
  have hctxs := kept.leads_ctxs s.profile was [.arrival .board was] hbusy hafter hc
  have hboard := e.leads_board_quiet (prev := was) s.profile [] fun h => by rw [hline, hfault, h]
  exact exec_sample_quiet hs hq (hcharger.trans (hpath.trans (hctxs.trans hboard))) (by decide) hw hr

/-! ## What a phase does with a sample -/

theorem Engine.ctxArrival_precharge {e : Engine} {c : CtxId} {r : Round} {x : Sample} (p : Profile)
    (hr : e.ctx c = some r) (hx : e.latest = some x) (hp : r.phase = .precharge) :
    e.ctxArrival p c = e.prechargeSample p c r x := by simp only [Engine.ctxArrival, hr, hx, hp]

theorem Engine.ctxArrival_ramp {e : Engine} {c : CtxId} {r : Round} {x : Sample} (p : Profile)
    (hr : e.ctx c = some r) (hx : e.latest = some x) (hp : r.phase = .ramp) :
    e.ctxArrival p c = e.rampSample p c r x := by simp only [Engine.ctxArrival, hr, hx, hp]

theorem Engine.ctxArrival_hold {e : Engine} {c : CtxId} {r : Round} {x : Sample} (p : Profile)
    (hr : e.ctx c = some r) (hx : e.latest = some x) (hp : r.phase = .hold) :
    e.ctxArrival p c = e.holdSample c r x := by simp only [Engine.ctxArrival, hr, hx, hp]

theorem Engine.ctxArrival_matching {e : Engine} {c : CtxId} {r : Round} {x : Sample} (p : Profile)
    (hr : e.ctx c = some r) (hx : e.latest = some x) (hp : r.phase = .matching) :
    e.ctxArrival p c = e.matchSample p c r x := by simp only [Engine.ctxArrival, hr, hx, hp]

/-! ## Transfers that are taken (R99, R101) -/

theorem Engine.requestTransfer_toEq {e : Engine} {p : Profile} {c : CtxId} {g : StringId} (ho : e.owner g = some c)
    (hf : isFitted p g = true) (hs : (e.str g).sel = .atOpen)
    (hk : ∀ k, k ≠ g → (e.str k).commanded ≠ .equalise) (b : Bool) :
    e.requestTransfer p c g b .equalise = (.taken, e.beginTransfer p g .goingEq .equalise (some .opened)) := by
  have hother : e.otherAtEq g = false := by
    simp only [Engine.otherAtEq, List.any_eq_false, Bool.and_eq_true, bne_iff_ne, beq_iff_eq, not_and]
    exact fun k _ hkg => hk k hkg
  simp [Engine.requestTransfer, ho, hf, hs, hother]

theorem Engine.requestTransfer_fromEq {e : Engine} {p : Profile} {c : CtxId} {g : StringId} (ho : e.owner g = some c)
    (hf : isFitted p g = true) (hs : (e.str g).sel = .atEq) :
    e.requestTransfer p c g false .opened = (.taken, e.beginTransfer p g .goingOpen .opened (some .equalise)) := by
  simp [Engine.requestTransfer, ho, hf, hs]

theorem Engine.enterConnecting_taken {e : Engine} {p : Profile} {c : CtxId} {r : Round} {g : StringId}
    (hg : r.cur = some g) (ho : e.owner g = some c) (hf : isFitted p g = true) (hs : (e.str g).sel = .atOpen)
    (hk : ∀ k, k ≠ g → (e.str k).commanded ≠ .equalise) :
    e.enterConnecting p c r
      = (e.beginTransfer p g .goingEq .equalise (some .opened)).putRound c (r.enter .connecting e.clock) := by
  have hcur : (r.enter .connecting e.clock).cur = some g := hg
  simp only [Engine.enterConnecting, Engine.askTransfer, hcur, Engine.requestTransfer_toEq ho hf hs hk]

theorem Engine.enterReturning_taken {e : Engine} {p : Profile} {c : CtxId} {r : Round} {g : StringId}
    (hg : r.cur = some g) (ho : e.owner g = some c) (hf : isFitted p g = true) (hs : (e.str g).sel = .atEq) (b : Bool) :
    e.enterReturning p c r b = (e.beginTransfer p g .goingOpen .opened (some .equalise)).putRound c
      { r.enter .returning e.clock with stranding := b } := by
  have hcur : (r.enter .returning e.clock).cur = some g := hg
  simp only [Engine.enterReturning, Engine.askTransfer, hcur, Engine.requestTransfer_fromEq ho hf hs]

/-! ## Bands -/

theorem inBand_iff {p : Profile} {x y : Nat} :
    inBand p x y = true ↔ x ≤ y + fieldNat p fldMatchBand ∧ y ≤ x + fieldNat p fldMatchBand := by
  simp [inBand]

/-! ## The charger's holder drives it (R115) -/

theorem Engine.chargerSet_holder {e : Engine} {c : CtxId} {v : Nat} (h : e.claims.charger = some c) (hv : v ≤ 70000) :
    e.chargerSet c v = { e with charger := { e.charger with setpoint := v } } := by
  rw [Engine.chargerSet, if_pos h, min_eq_right hv]

theorem Engine.chargerDisable_holder {e : Engine} {c : CtxId} (h : e.claims.charger = some c) :
    e.chargerDisable c = { e with charger := { enable := false, setpoint := 0, limit := 0 } } := if_pos h

/-! ## Phase by phase -/

/-- MATCH is entered with the charger at the load bus (R127). -/
theorem Engine.enterMatch_holder {e : Engine} {c : CtxId} {r : Round} {x : Sample} (h : e.claims.charger = some c)
    (hx : e.latest = some x) (hv : x.loadVolts ≤ 70000) :
    e.enterMatch c r = { (e.withdrawSweep c).putRound c { r.enter .matching e.clock with perCell := 0, holdDue := false } with
      charger := { e.charger with setpoint := x.loadVolts } } := by
  have hload : latestLoad e.latest = x.loadVolts := by rw [hx]; rfl
  rw [Engine.enterMatch, hload]
  exact Engine.chargerSet_holder h hv

/-- A round enters HOLD, here on a WAKING line (R74, R124). -/
theorem Engine.enterHold_waking {e : Engine} {p : Profile} {c : CtxId} {r : Round} {g : StringId} (hg : r.cur = some g)
    (hl : e.line.state = .waking) :
    e.enterHold p c r = (e.holdEntry g).withRequest c
      { r.enter .hold e.clock with holdElapsed := 0, settledCells := 0, holdTimer := e.clock, holdDue := false }
      (oneString g) .hold := by
  simp only [Engine.enterHold, hg, Engine.sweepCurrent]
  exact Engine.putRound_requestSweep (e := e.holdEntry g) p c
    { r.enter .hold e.clock with holdElapsed := 0, settledCells := 0, holdTimer := e.clock, holdDue := false } _ .hold hl

/-- The charge cap of the order is reached (R126). -/
abbrev Round.capped (r : Round) (y : Slot) : Prop := chargeCap y ≠ 0 ∧ 1000 * chargeCap y ≤ r.charge

/-- The max hold of the order is reached (R126). -/
abbrev Round.timed (r : Round) (y : Slot) : Prop := 60 * maxHold y ≤ r.holdElapsed

/-- The end that the two limits of HOLD give, the charge cap first (R126). -/
def Round.holdEnd (r : Round) (y : Slot) : Outcome := if r.capped y then .eqChargeCap else .eqTimed

theorem Engine.judgeHold_within {e : Engine} {c : CtxId} {r : Round} (hcap : ¬ r.capped (e.slot r.slot))
    (ht : ¬ r.timed (e.slot r.slot)) : e.judgeHold c r = e.putRound c r := by
  simp only [Engine.judgeHold, if_neg hcap, if_neg ht]

theorem Engine.judgeHold_ends {e : Engine} {c : CtxId} {r : Round}
    (h : r.capped (e.slot r.slot) ∨ r.timed (e.slot r.slot)) :
    e.judgeHold c r = e.endIntoMatch c r (r.holdEnd (e.slot r.slot)) := by
  by_cases hcap : r.capped (e.slot r.slot)
  · simp only [Engine.judgeHold, Round.holdEnd, if_pos hcap]
  · simp only [Engine.judgeHold, Round.holdEnd, if_neg hcap, if_pos (h.resolve_left hcap)]

end Sys2Proof.Machine
end

section
/-! SUPPORT. A sample as the one busy context takes it, its lines unchanged (R92, R121 to R129). -/

namespace Sys2Proof.Machine

/-- Context `c` alone is busy, driving the string `g`, and a sample with no change of a line of the site arrives. -/
structure State.TakesAlone (s : State) (r : Readings) (c : CtxId) (d : Round) (g : StringId) : Prop where
  attends : s.attending
  owed : s.eng.qualifierOwed = none
  round : s.eng.ctx c = some d
  cur : d.cur = some g
  charger : s.eng.claims.charger = some c
  owner : s.eng.owner g = some c
  fitted : isFitted s.profile g = true
  only : s.onlyBusy c
  fault : r.chgFault = (latestLines s.eng.latest).chgFault
  low : r.resLow = (latestLines s.eng.latest).resLow
  notEmpty : r.resEmpty = false
  path : s.eng.water.state ≠ .empty

section
variable {s : State} {r : Readings} {c : CtxId} {d : Round} {g : StringId}

/-- What that context does is all that the sample changes. -/
theorem State.TakesAlone.leaves (h : s.TakesAlone r c d g) {e : Engine}
    (hc : ∀ vs, ((s.eng.sampled s.profile r).hand vs).ctxArrival s.profile c = e.hand vs)
    (hafter : ∀ k, k ≠ c → e.ctx k = none) (hw : e.agenda = []) (hr : e.raised = []) :
    exec (.sample r []) s = .next { s with eng := e } :=
  exec_sample_ctx h.attends h.owed h.only h.fault h.low h.notEmpty h.path hc hafter hw hr

theorem State.TakesAlone.at_precharge (h : s.TakesAlone r c d g) (hp : d.phase = .precharge) (vs : List Work) :
    ((s.eng.sampled s.profile r).hand vs).ctxArrival s.profile c
      = ((s.eng.sampled s.profile r).hand vs).prechargeSample s.profile c d (sampleOf s.eng.sampleTime r) :=
  Engine.ctxArrival_precharge (e := (s.eng.sampled s.profile r).hand vs) _ h.round rfl hp

theorem State.TakesAlone.at_ramp (h : s.TakesAlone r c d g) (hp : d.phase = .ramp) (vs : List Work) :
    ((s.eng.sampled s.profile r).hand vs).ctxArrival s.profile c
      = ((s.eng.sampled s.profile r).hand vs).rampSample s.profile c d (sampleOf s.eng.sampleTime r) :=
  Engine.ctxArrival_ramp (e := (s.eng.sampled s.profile r).hand vs) _ h.round rfl hp

theorem State.TakesAlone.at_hold (h : s.TakesAlone r c d g) (hp : d.phase = .hold) (vs : List Work) :
    ((s.eng.sampled s.profile r).hand vs).ctxArrival s.profile c
      = ((s.eng.sampled s.profile r).hand vs).holdSample c d (sampleOf s.eng.sampleTime r) :=
  Engine.ctxArrival_hold (e := (s.eng.sampled s.profile r).hand vs) _ h.round rfl hp

theorem State.TakesAlone.at_matching (h : s.TakesAlone r c d g) (hp : d.phase = .matching) (vs : List Work) :
    ((s.eng.sampled s.profile r).hand vs).ctxArrival s.profile c
      = ((s.eng.sampled s.profile r).hand vs).matchSample s.profile c d (sampleOf s.eng.sampleTime r) :=
  Engine.ctxArrival_matching (e := (s.eng.sampled s.profile r).hand vs) _ h.round rfl hp

/-- PRECHARGE within the match band: CONNECTING is entered (R121, R139). -/
theorem State.TakesAlone.connects (h : s.TakesAlone r c d g) (hp : d.phase = .precharge)
    (hk : d.kind = .giveBack → r.chgFault = false)
    (hnear : inBand s.profile (sampleOf s.eng.sampleTime r).eqVolts d.prechargeTarget = true)
    (hsel : (s.eng.str g).sel = .atOpen) (hothers : ∀ k, k ≠ g → (s.eng.str k).commanded ≠ .equalise) :
    exec (.sample r []) s = .next { s with
      eng := ((s.eng.sampled s.profile r).beginTransfer s.profile g .goingEq .equalise (some .opened)).putRound c
            { d with phase := .connecting, phaseStart := s.eng.sampleTime } } := by
  refine h.leaves (fun vs => ?_) (fun k hk => (Engine.ctx_putRound_other _ _ hk).trans (h.only k hk)) h.attends.2.1
    h.attends.2.2
  have hno : ¬ (d.kind = .giveBack ∧ (sampleOf s.eng.sampleTime r).lines.chgFault = true) :=
    fun ⟨hkind, hfault⟩ => absurd ((hk hkind).symm.trans hfault) (by decide)
  rw [h.at_precharge hp, Engine.prechargeSample,
    if_neg hno, if_pos hnear]
  exact Engine.enterConnecting_taken (e := (s.eng.sampled s.profile r).hand vs) h.cur h.owner h.fitted hsel hothers

/-- PRECHARGE out of the band: the string waits. -/
theorem State.TakesAlone.waits (h : s.TakesAlone r c d g) (hp : d.phase = .precharge)
    (hk : d.kind = .giveBack → r.chgFault = false)
    (hfar : ¬ inBand s.profile (sampleOf s.eng.sampleTime r).eqVolts d.prechargeTarget = true) :
    exec (.sample r []) s = .next { s with eng := s.eng.sampled s.profile r } := by
  refine h.leaves (fun vs => ?_) h.only h.attends.2.1 h.attends.2.2
  have hno : ¬ (d.kind = .giveBack ∧ (sampleOf s.eng.sampleTime r).lines.chgFault = true) :=
    fun ⟨hkind, hfault⟩ => absurd ((hk hkind).symm.trans hfault) (by decide)
  rw [h.at_precharge hp, Engine.prechargeSample,
    if_neg hno, if_neg hfar]

/-- The ramp threshold of the current string (R123). -/
theorem rampThreshold_cur {p : Profile} {d : Round} {g : StringId} (h : d.cur = some g) :
    rampThreshold p d = cellsFitted p g * d.perCell - cellsFitted p g * 20 := by
  simp only [rampThreshold, stringSetpoint, h]

/-- RAMP below the threshold: the current is added to the charge sum (R92, R123). -/
theorem State.TakesAlone.ramps (h : s.TakesAlone r c d g) (hp : d.phase = .ramp)
    (hlow : (sampleOf s.eng.sampleTime r).eqVolts < cellsFitted s.profile g * d.perCell - cellsFitted s.profile g * 20) :
    exec (.sample r []) s = .next { s with
      eng := (s.eng.sampled s.profile r).putRound c (d.addCharge (sampleOf s.eng.sampleTime r)) } := by
  refine h.leaves (fun vs => ?_) (fun k hk => (Engine.ctx_putRound_other _ _ hk).trans (h.only k hk)) h.attends.2.1
    h.attends.2.2
  have hthreshold := rampThreshold_cur (p := s.profile) (d := d.addCharge (sampleOf s.eng.sampleTime r)) h.cur
  rw [h.at_ramp hp, Engine.rampSample, hthreshold]
  exact if_neg (Nat.not_le.mpr hlow)

/-- RAMP at the threshold: HOLD is entered, its first sweep requested (R74, R123, R124). -/
theorem State.TakesAlone.holds (h : s.TakesAlone r c d g) (hp : d.phase = .ramp)
    (hhigh : cellsFitted s.profile g * d.perCell - cellsFitted s.profile g * 20 ≤ (sampleOf s.eng.sampleTime r).eqVolts)
    (hl : s.eng.line.state = .waking) :
    exec (.sample r []) s = .next { s with
      eng := ((s.eng.sampled s.profile r).holdEntry g).withRequest c
          { (d.addCharge (sampleOf s.eng.sampleTime r)).enter .hold s.eng.sampleTime with
            holdElapsed := 0, settledCells := 0, holdTimer := s.eng.sampleTime, holdDue := false } (oneString g) .hold } := by
  refine h.leaves (fun vs => ?_) (fun k hk => (get_set_other _ _ hk).trans (h.only k hk)) h.attends.2.1 h.attends.2.2
  have hthreshold := rampThreshold_cur (p := s.profile) (d := d.addCharge (sampleOf s.eng.sampleTime r)) h.cur
  rw [h.at_ramp hp, Engine.rampSample, hthreshold]
  exact (if_pos hhigh).trans (Engine.enterHold_waking (r := d.addCharge (sampleOf s.eng.sampleTime r)) h.cur hl)

/-- The round of HOLD with a sample judged (R92, R126). -/
def Round.held (d : Round) (x : Sample) : Round := (d.addCharge x).holdUntil x.time

/-- HOLD within both limits (R126). -/
theorem State.TakesAlone.holdsOn (h : s.TakesAlone r c d g) (hp : d.phase = .hold)
    (hcap : ¬ (d.held (sampleOf s.eng.sampleTime r)).capped (s.eng.slot d.slot))
    (ht : ¬ (d.held (sampleOf s.eng.sampleTime r)).timed (s.eng.slot d.slot)) :
    exec (.sample r []) s = .next { s with
      eng := (s.eng.sampled s.profile r).putRound c (d.held (sampleOf s.eng.sampleTime r)) } := by
  refine h.leaves (fun vs => ?_) (fun k hk => (Engine.ctx_putRound_other _ _ hk).trans (h.only k hk)) h.attends.2.1
    h.attends.2.2
  rw [h.at_hold hp]
  exact Engine.judgeHold_within hcap ht

/-- A clamped load bus reading lies in the charger's range. -/
theorem sampleOf_loadVolts_le (now : Clock) (r : Readings) : (sampleOf now r).loadVolts ≤ 70000 := min_le_left _ _

/-- The round of HOLD that a limit sends to MATCH (R126, R127). -/
def Round.matched (d : Round) (y : Slot) (now : Clock) : Round :=
  { ({ d with pendingOutcome := some (d.holdEnd y) } : Round).enter .matching now with perCell := 0, holdDue := false }

/-- HOLD at a limit: the string goes to MATCH (R126, R127). -/
theorem State.TakesAlone.matches (h : s.TakesAlone r c d g) (hp : d.phase = .hold)
    (hends : (d.held (sampleOf s.eng.sampleTime r)).capped (s.eng.slot d.slot)
      ∨ (d.held (sampleOf s.eng.sampleTime r)).timed (s.eng.slot d.slot)) :
    exec (.sample r []) s = .next { s with
      eng := { ((s.eng.sampled s.profile r).withdrawSweep c).putRound c
          ((d.held (sampleOf s.eng.sampleTime r)).matched (s.eng.slot d.slot) s.eng.sampleTime) with
        charger := { s.eng.charger with setpoint := (sampleOf s.eng.sampleTime r).loadVolts } } } := by
  refine h.leaves (fun vs => ?_) (fun k hk => (get_set_other _ _ hk).trans (h.only k hk)) h.attends.2.1 h.attends.2.2
  have hjudged := Engine.judgeHold_ends (e := (s.eng.sampled s.profile r).hand vs) (c := c)
    (r := d.held (sampleOf s.eng.sampleTime r)) hends
  rw [h.at_hold hp]
  exact hjudged.trans (Engine.enterMatch_holder (e := (s.eng.sampled s.profile r).hand vs)
    (x := sampleOf s.eng.sampleTime r) h.charger rfl (sampleOf_loadVolts_le _ _))

/-- MATCH with CHG_FAULT set: the string returns to be stranded, the charger disabled (R127, R129). -/
theorem State.TakesAlone.strands (h : s.TakesAlone r c d g) (hp : d.phase = .matching) (hsel : (s.eng.str g).sel = .atEq)
    (hf : r.chgFault = true) :
    exec (.sample r []) s = .next { s with
      eng := { ((s.eng.sampled s.profile r).beginTransfer s.profile g .goingOpen .opened (some .equalise)).putRound c
              { d with phase := .returning, phaseStart := s.eng.sampleTime, stranding := true } with
            charger := { enable := false, setpoint := 0, limit := 0 } } } := by
  refine h.leaves (fun vs => ?_) (fun k hk => (get_set_other _ _ hk).trans (h.only k hk)) h.attends.2.1 h.attends.2.2
  have hfault : (sampleOf s.eng.sampleTime r).lines.chgFault = true := hf
  rw [h.at_matching hp, Engine.matchSample,
    if_pos hfault, Engine.strandingReturn,
    Engine.chargerDisable_holder (e := (s.eng.sampled s.profile r).hand vs) h.charger]
  exact Engine.enterReturning_taken (e := { (s.eng.sampled s.profile r).hand vs with charger := Charger.blank }) h.cur
    h.owner h.fitted hsel true

/-- MATCH within the band of the load bus: the string returns (R128). -/
theorem State.TakesAlone.returns (h : s.TakesAlone r c d g) (hp : d.phase = .matching) (hsel : (s.eng.str g).sel = .atEq)
    (hf : r.chgFault = false)
    (hnear : inBand s.profile (sampleOf s.eng.sampleTime r).eqVolts (sampleOf s.eng.sampleTime r).loadVolts = true) :
    exec (.sample r []) s = .next { s with
      eng := ((s.eng.sampled s.profile r).beginTransfer s.profile g .goingOpen .opened (some .equalise)).putRound c
            { d with phase := .returning, phaseStart := s.eng.sampleTime, stranding := false } } := by
  refine h.leaves (fun vs => ?_) (fun k hk => (get_set_other _ _ hk).trans (h.only k hk)) h.attends.2.1 h.attends.2.2
  have hfault : ¬ (sampleOf s.eng.sampleTime r).lines.chgFault = true :=
    fun hx => absurd (hf.symm.trans hx) (by decide)
  rw [h.at_matching hp, Engine.matchSample,
    if_neg hfault, if_pos hnear]
  exact Engine.enterReturning_taken (e := (s.eng.sampled s.profile r).hand vs) h.cur h.owner h.fitted hsel false

/-- MATCH out of the band: the charger is set to the load bus (R127). -/
theorem State.TakesAlone.follows (h : s.TakesAlone r c d g) (hp : d.phase = .matching) (hf : r.chgFault = false)
    (hfar : ¬ inBand s.profile (sampleOf s.eng.sampleTime r).eqVolts (sampleOf s.eng.sampleTime r).loadVolts = true) :
    exec (.sample r []) s = .next { s with
      eng := { s.eng.sampled s.profile r with
            charger := { s.eng.charger with setpoint := (sampleOf s.eng.sampleTime r).loadVolts } } } := by
  refine h.leaves (fun vs => ?_) h.only h.attends.2.1 h.attends.2.2
  have hfault : ¬ (sampleOf s.eng.sampleTime r).lines.chgFault = true :=
    fun hx => absurd (hf.symm.trans hx) (by decide)
  rw [h.at_matching hp, Engine.matchSample,
    if_neg hfault, if_neg hfar]
  exact Engine.chargerSet_holder h.charger (sampleOf_loadVolts_le _ _)

end

end Sys2Proof.Machine
end

section
/-! SUPPORT. A change of a line of the site: CHG_FAULT at the charger port and the board, the reservoir lines at the water
path (R14, R15, R87, R144). -/

namespace Sys2Proof.Machine

/-! ## A rise of CHG_FAULT (R87) -/

/-- The holder of a claim that is busy is to take the cause. -/
theorem Engine.causeToHolder_busy {e : Engine} {c : CtxId} {d : Round} (hc : e.ctx c = some d) (x : Cause) :
    e.causeToHolder (some c) x = [.cause c d.slot x] := by simp only [Engine.causeToHolder, hc]

/-- Where no context is busy, no cause goes out. -/
theorem Engine.causeToHolder_idle {e : Engine} (h : ∀ c, e.ctx c = none) (o : Option CtxId) (x : Cause) :
    e.causeToHolder o x = [] := by
  cases o with
  | none => rfl
  | some c => simp only [Engine.causeToHolder, h c]

/-- The charger port of a part where no context is busy does nothing. -/
theorem Engine.leads_charger_idle (e : Engine) (p : Profile) (prev : Lines) (ws : List Work) (h : ∀ c, e.ctx c = none) :
    (e.hand (.arrival .charger prev :: ws)).Leads p 1 (e.hand ws) := by
  by_cases hrise : (latestLines e.latest).chgFault = true ∧ prev.chgFault = false
  · have hl := e.leads_charger_rise p ws hrise.1 hrise.2
    rwa [Engine.causeToHolder_idle h] at hl
  · refine e.leads_charger_quiet p ws fun hnow => ?_
    exact Bool.not_eq_false _ ▸ fun hwas => hrise ⟨hnow, hwas⟩

/-- A part where no context is busy takes a sample with no fall of CHG_FAULT and no change of the reservoir. -/
theorem exec_sample_idle {s : State} {r : Readings} (hs : s.attending) (hq : s.eng.qualifierOwed = none)
    (hidle : ∀ c, s.eng.ctx c = none) (hlow : r.resLow = (latestLines s.eng.latest).resLow) (hempty : r.resEmpty = false)
    (hwater : s.eng.water.state ≠ .empty) (hfall : (latestLines s.eng.latest).chgFault = true → r.chgFault = true) :
    exec (.sample r []) s = .next { s with eng := s.eng.sampled s.profile r } := by
  let kept := s.eng.sampled s.profile r
  let was := latestLines s.eng.latest
  have hcharger := kept.leads_charger_idle s.profile was
    (.arrival .water was :: (ctxArrivals was allCtxs ++ [.arrival .board was])) hidle
  have hpath := kept.leads_water_quiet (prev := was) s.profile (ctxArrivals was allCtxs ++ [.arrival .board was]) hlow hempty
    hwater
  have hctxs := kept.leads_ctxs_idle s.profile was [.arrival .board was] hidle
  have hboard := kept.leads_board_quiet (prev := was) s.profile [] hfall
  exact exec_sample_quiet hs hq (hcharger.trans (hpath.trans (hctxs.trans hboard))) (by decide) hs.2.1 hs.2.2

/-- A context on its way back takes a cause (R35, R36). -/
theorem Engine.leads_cause_onWayBack (e : Engine) (p : Profile) {c : CtxId} {d : Round} (x : Cause) (ws : List Work)
    (hc : e.ctx c = some d) (hd : d.onWayBack) :
    (e.hand (.cause c d.slot x :: ws)).Leads p 1 ((e.putRound c (d.takeCause x)).hand ws) := by
  refine .step ?_ (.refl p _)
  simp only [Engine.work, Engine.withRound, Engine.hand_ctx, hc, if_true]
  exact Engine.takeCause_onWayBack (e.hand ws) p c x hd

/-- RETURNING concerns no sample. -/
theorem returning_ignores {ph : Phase} (h : ph = .returning) : ph.ignoresSamples := by
  subst h
  exact ⟨by decide, by decide, by decide, by decide⟩

/-- A rise of CHG_FAULT with the charger's holder in RETURNING: it takes the cause. -/
theorem exec_sample_rise {s : State} {r : Readings} {c : CtxId} {d : Round} (hs : s.attending)
    (hq : s.eng.qualifierOwed = none) (hwas : (latestLines s.eng.latest).chgFault = false) (hnow : r.chgFault = true)
    (hlow : r.resLow = (latestLines s.eng.latest).resLow) (hempty : r.resEmpty = false)
    (hwater : s.eng.water.state ≠ .empty) (hc : s.eng.ctx c = some d) (hbusy : s.onlyBusy c)
    (hcharger : s.eng.claims.charger = some c) (hp : d.phase = .returning) :
    exec (.sample r []) s = .next { s with
      eng := (s.eng.sampled s.profile r).putRound c (d.takeCause .chargerFault) } := by
  let kept := s.eng.sampled s.profile r
  let was := latestLines s.eng.latest
  let e := kept.putRound c (d.takeCause .chargerFault)
  have hround : e.ctx c = some (d.takeCause .chargerFault) := kept.ctx_putRound_same c _
  have hother (k : CtxId) (hk : k ≠ c) : e.ctx k = none := (kept.ctx_putRound_other _ hk).trans (hbusy k hk)
  have hphase : (d.takeCause .chargerFault).phase.ignoresSamples := returning_ignores ((d.takeCause_phase _).trans hp)
  let later : List Work := .arrival .water was :: (ctxArrivals was allCtxs ++ [.arrival .board was])
  have hrise := kept.leads_charger_rise (prev := was) s.profile later hnow hwas
  rw [show kept.claims.charger = some c from hcharger, Engine.causeToHolder_busy (e := kept) hc] at hrise
  have hcause := kept.leads_cause_onWayBack s.profile .chargerFault later hc (.inr hp)
  have hpath := e.leads_water_quiet (prev := was) s.profile (ctxArrivals was allCtxs ++ [.arrival .board was]) hlow hempty
    hwater
  have hctxs := e.leads_ctxs s.profile was [.arrival .board was] hother hother
    fun vs => Engine.ctxArrival_ignored (e := e.hand vs) s.profile hround hphase
  have hboard := e.leads_board_quiet (prev := was) s.profile [] fun h => absurd (hwas.symm.trans h) (by decide)
  exact exec_sample_quiet hs hq (hrise.trans (hcause.trans (hpath.trans (hctxs.trans hboard)))) (by decide) hs.2.1 hs.2.2

/-! ## The reservoir (R144) -/

/-- The events of the reservoir lines: a rise of RES_LOW, a rise of RES_EMPTY. -/
def reservoirEvents (prev now : Lines) : List Event :=
  (if now.resLow && !prev.resLow then [.resLow] else []) ++ (if now.resEmpty && !prev.resEmpty then [.resEmpty] else [])

/-- The blocks with the events of the reservoir lines handed. -/
def Engine.reservoirRaised (e : Engine) (prev : Lines) : Engine :=
  { e with raised := e.raised ++ reservoirEvents prev (latestLines e.latest) }

/-- The water path takes an arrival: its events, then the state of the path by the level of RES_EMPTY. -/
theorem Engine.waterArrival_eq (e : Engine) (p : Profile) (prev : Lines) : e.waterArrival p prev =
    if (latestLines e.latest).resEmpty = true then
      if e.water.state = .ready ∨ e.water.state = .busy then (e.reservoirRaised prev).emptyPath p else e.reservoirRaised prev
    else if e.water.state = .empty then (e.reservoirRaised prev).refillPath else e.reservoirRaised prev := by
  have hraised : (let e' := if (latestLines e.latest).resLow && !prev.resLow then e.raise .resLow else e
      if (latestLines e.latest).resEmpty && !prev.resEmpty then e'.raise .resEmpty else e') = e.reservoirRaised prev := by
    unfold Engine.reservoirRaised reservoirEvents
    cases (latestLines e.latest).resLow && !prev.resLow <;> cases (latestLines e.latest).resEmpty && !prev.resEmpty <;>
      simp [Engine.raise]
  simp only [Engine.waterArrival, hraised]
  rfl

/-- The events of the reservoir lines, judged. -/
theorem foldl_reservoirEvents (a : Alert) (prev now : Lines) :
    (reservoirEvents prev now).foldl Alert.capture a =
      (let low := if now.resLow = true ∧ prev.resLow = false then a.capture .resLow else a
       if now.resEmpty = true ∧ prev.resEmpty = false then low.capture .resEmpty else low) := by
  simp only [reservoirEvents, List.foldl_append, Bool.and_eq_true, Bool.not_eq_true']
  split_ifs <;> rfl

/-- The state of a path that no claim holds, by the level of RES_EMPTY. -/
def PathState.level (x : PathState) (empty : Bool) : PathState :=
  if empty then if x = .ready ∨ x = .busy then .empty else x else if x = .empty then .ready else x

/-- The water path with no valve open, no claim and no order waiting: its events, its state, and no more. -/
theorem Engine.leads_path_idle (e : Engine) (p : Profile) (prev : Lines) (ws : List Work) (hq : e.board.queue = [])
    (hv : e.water.valve = none) (hc : e.claims.water = none) :
    (e.hand (.arrival .water prev :: ws)).Leads p 2 (({ e.reservoirRaised prev with
      water := { e.water with state := e.water.state.level (latestLines e.latest).resEmpty } } : Engine).hand ws) := by
  let raised := e.reservoirRaised prev
  let at_ (x : PathState) : Engine := { raised with water := { e.water with state := x } }
  have hstay : at_ e.water.state = raised := rfl
  have hempties : (raised.hand ws).emptyPath p = (at_ .empty).hand (.scan :: ws) := by
    have hclosed : (raised.hand ws).closeValve p = raised.hand ws := by
      simp only [Engine.closeValve, show (raised.hand ws).water.valve = none from hv]
    simp only [Engine.emptyPath, hclosed, show (raised.hand ws).water.valve = none from hv, Option.isSome_none,
      Bool.false_eq_true, if_false]
    exact congrArg (fun w => ({ raised with water := { e.water with state := .empty, valve := w } } : Engine).hand
      (.scan :: ws)) hv.symm
  have hrefills : (raised.hand ws).refillPath = (at_ .ready).hand (.scan :: ws) := by
    simp only [Engine.refillPath, show (raised.hand ws).claims.water = none from hc, Option.isSome_none,
      Bool.false_eq_true, if_false]
    rfl
  have hscan (x : PathState) : ((at_ x).hand (.scan :: ws)).Leads p 1 ((at_ x).hand ws) :=
    Engine.leads_scan_empty p ws hq
  have harrival := (e.hand ws).waterArrival_eq p prev
  show (e.hand (.arrival .water prev :: ws)).Leads p 2
    ((at_ (e.water.state.level (latestLines e.latest).resEmpty)).hand ws)
  by_cases hempty : (latestLines e.latest).resEmpty = true
  · have hset := harrival.trans (if_pos hempty)
    by_cases hstate : e.water.state = .ready ∨ e.water.state = .busy
    · rw [show e.water.state.level (latestLines e.latest).resEmpty = .empty by simp [PathState.level, hempty, hstate]]
      exact .step (hset.trans ((if_pos hstate).trans hempties)) (hscan .empty)
    · rw [show e.water.state.level (latestLines e.latest).resEmpty = e.water.state by
        simp [PathState.level, hempty, hstate]]
      exact .step (hset.trans (if_neg hstate)) ((Engine.Leads.refl p (raised.hand ws)).mono (Nat.zero_le 1))
  · have hclear := harrival.trans (if_neg hempty)
    by_cases hstate : e.water.state = .empty
    · rw [show e.water.state.level (latestLines e.latest).resEmpty = .ready by simp [PathState.level, hempty, hstate]]
      exact .step (hclear.trans ((if_pos hstate).trans hrefills)) (hscan .ready)
    · rw [show e.water.state.level (latestLines e.latest).resEmpty = e.water.state by
        simp [PathState.level, hempty, hstate]]
      exact .step (hclear.trans (if_neg hstate)) ((Engine.Leads.refl p (raised.hand ws)).mono (Nat.zero_le 1))

/-- A sample on a part where no context is busy and no order waits: what the water path does is all. -/
theorem exec_sample_path {s : State} {r : Readings} (hs : s.attending) (hq : s.eng.qualifierOwed = none)
    (hqueue : s.eng.board.queue = []) (hidle : ∀ c, s.eng.ctx c = none)
    (hfault : r.chgFault = (latestLines s.eng.latest).chgFault) (hv : s.eng.water.valve = none)
    (hc : s.eng.claims.water = none) :
    exec (.sample r []) s = .next { s with
      alert := (reservoirEvents (latestLines s.eng.latest) (linesOf r)).foldl Alert.capture s.alert
      eng := { s.eng.sampled s.profile r with
        water := { s.eng.water with state := s.eng.water.state.level r.resEmpty } } } := by
  let kept := s.eng.sampled s.profile r
  let was := latestLines s.eng.latest
  let e : Engine := { kept.reservoirRaised was with
    water := { s.eng.water with state := s.eng.water.state.level r.resEmpty } }
  have hcharger := kept.leads_charger_quiet (prev := was) s.profile
    (.arrival .water was :: (ctxArrivals was allCtxs ++ [.arrival .board was])) fun h => hfault ▸ h
  have hpath := kept.leads_path_idle s.profile was (ctxArrivals was allCtxs ++ [.arrival .board was]) hqueue hv hc
  have hctxs := e.leads_ctxs_idle s.profile was [.arrival .board was] hidle
  have hboard := e.leads_board_quiet (prev := was) s.profile [] fun h => hfault.trans h
  have hevents : e.raised = reservoirEvents was (linesOf r) := by
    show s.eng.raised ++ _ = _
    rw [hs.2.2]
    rfl
  have hexec := exec_sample_leads (e := e) hs hq (hcharger.trans (hpath.trans (hctxs.trans hboard))) (by decide) hs.2.1
  rw [hevents] at hexec
  have hcalm := congrArg (fun evs => ({ e with raised := evs } : Engine)) hs.2.2.symm
  exact hexec.trans (congrArg (fun x => Host.Outcome.next { s with
    alert := (reservoirEvents was (linesOf r)).foldl Alert.capture s.alert
    eng := x }) hcalm)

/-! ## RES_EMPTY with a valve open (R144, R163) -/

theorem Round.putOutcome_coasting (r : Round) (g : StringId) (o : Outcome) : (r.putOutcome g o).coasting = r.coasting := by
  unfold Round.putOutcome; split <;> rfl

theorem Round.takeCause_coasting (r : Round) (x : Cause) : (r.takeCause x).coasting = r.coasting := by
  have houtcomes (l : List StringId) (r : Round) :
      (l.foldl (fun r g => r.putOutcome g .notReached) r).coasting = r.coasting := by
    induction l generalizing r with
    | nil => rfl
    | cons g l ih => exact (ih _).trans (r.putOutcome_coasting g _)
  unfold Round.takeCause
  split
  · rfl
  · exact houtcomes _ r

/-- A fill that RES_EMPTY ends: the round with its outcome, coasting (R163). -/
def Round.emptied (d : Round) : Round :=
  { d.takeCause .reservoirEmpty with pendingOutcome := some .reservoirEmpty, coasting := true }

/-- A context in PRIME or FILL takes RESERVOIR_EMPTY as its first cause, its valve closed already. -/
theorem Engine.takeCause_reservoir {e : Engine} (p : Profile) (c : CtxId) {d : Round} (hf : d.firstCause = none)
    (hp : d.phase = .prime ∨ d.phase = .fill) (hco : d.coasting = false) (hv : e.water.valve = none) :
    e.takeCause p c d .reservoirEmpty = e.putRound c d.emptied := by
  have hclosed : e.closeValve p = e := by simp only [Engine.closeValve, hv]
  have hcoasting := (d.takeCause_coasting .reservoirEmpty).trans hco
  have hphase := d.takeCause_phase .reservoirEmpty
  have hends : e.endFill p c (d.takeCause .reservoirEmpty) .reservoirEmpty = e.putRound c d.emptied := by
    rw [Engine.endFill, hclosed]; rfl
  obtain hp | hp := hp
  · simp [Engine.takeCause, hf, Engine.bringToRest, hphase.trans hp, hcoasting, hends]
  · simp [Engine.takeCause, hf, Engine.bringToRest, hphase.trans hp, hcoasting, hends]

/-- The water path as RES_EMPTY leaves it with the valve of `g` open (R144, R146). -/
def Water.emptied (w : Water) (g : StringId) (till : Clock) : Water :=
  { w with state := .empty, valve := none, pump := false, coast := some (g, till) }

/-- The path empties with a valve open: the valve closes, and the holder is to take the cause. -/
theorem Engine.emptyPath_open {e : Engine} (p : Profile) {c : CtxId} {d : Round} {g : StringId}
    (hv : e.water.valve = some g) (hholds : e.claims.water = some c) (hc : e.ctx c = some d) :
    e.emptyPath p = ({ e with water := e.water.emptied g (after e.clock (fieldNat p fldStop)) } : Engine).hand
      [.cause c d.slot .reservoirEmpty, .scan] := by
  let shut : Engine := { e with water := e.water.emptied g (after e.clock (fieldNat p fldStop)) }
  have hcause : shut.causeToHolder e.claims.water .reservoirEmpty = [.cause c d.slot .reservoirEmpty] := by
    rw [hholds]
    exact Engine.causeToHolder_busy (e := shut) hc _
  simp only [Engine.emptyPath, Engine.closeValve, hv, Option.isSome_some, if_true]
  exact congrArg (fun ws => shut.hand (ws ++ [.scan])) hcause

/-- RES_EMPTY with a valve open and no order waiting: the path empties, and its holder takes the cause. -/
theorem Engine.leads_path_empties (e : Engine) (p : Profile) (prev : Lines) (ws : List Work) {c : CtxId} {d : Round}
    {g : StringId} (hempty : (latestLines e.latest).resEmpty = true) (hq : e.board.queue = [])
    (hc : e.ctx c = some d) (hholds : e.claims.water = some c) (hp : d.phase = .prime ∨ d.phase = .fill)
    (hco : d.coasting = false) (hf : d.firstCause = none) (hb : e.water.state = .busy) (hv : e.water.valve = some g) :
    (e.hand (.arrival .water prev :: ws)).Leads p 3 (({ (e.reservoirRaised prev).putRound c d.emptied with
      water := e.water.emptied g (after e.clock (fieldNat p fldStop)) } : Engine).hand ws) := by
  let shut : Engine := { e.reservoirRaised prev with water := e.water.emptied g (after e.clock (fieldNat p fldStop)) }
  have hround : shut.ctx c = some d := hc
  have harrival : (e.hand ws).waterArrival p prev = shut.hand (.cause c d.slot .reservoirEmpty :: .scan :: ws) :=
    ((e.hand ws).waterArrival_eq p prev).trans ((if_pos hempty).trans ((if_pos (.inr hb)).trans
      (Engine.emptyPath_open (e := (e.hand ws).reservoirRaised prev) p hv hholds hc)))
  refine .step harrival ((Engine.Leads.step (f := (shut.putRound c d.emptied).hand (.scan :: ws)) ?_
    (Engine.leads_scan_empty p ws hq)))
  simp only [Engine.work, Engine.withRound, Engine.hand_ctx, hround, if_true]
  exact Engine.takeCause_reservoir p c hf hp hco rfl

/-- A sample with RES_EMPTY while the one busy context fills a string: the fill ends and the path is EMPTY. -/
theorem exec_sample_empties {s : State} {r : Readings} {c : CtxId} {d : Round} {g : StringId} (hs : s.attending)
    (hq : s.eng.qualifierOwed = none) (hqueue : s.eng.board.queue = []) (hbusy : s.onlyBusy c)
    (hfault : r.chgFault = (latestLines s.eng.latest).chgFault) (hempty : r.resEmpty = true)
    (hc : s.eng.ctx c = some d) (hholds : s.eng.claims.water = some c) (hp : d.phase = .prime ∨ d.phase = .fill)
    (hco : d.coasting = false) (hf : d.firstCause = none) (hb : s.eng.water.state = .busy)
    (hv : s.eng.water.valve = some g) :
    exec (.sample r []) s = .next { s with
      alert := (reservoirEvents (latestLines s.eng.latest) (linesOf r)).foldl Alert.capture s.alert
      eng := { (s.eng.sampled s.profile r).putRound c d.emptied with
        water := s.eng.water.emptied g (after s.eng.sampleTime (fieldNat s.profile fldStop)) } } := by
  let kept := s.eng.sampled s.profile r
  let was := latestLines s.eng.latest
  let e : Engine := { (kept.reservoirRaised was).putRound c d.emptied with
    water := s.eng.water.emptied g (after s.eng.sampleTime (fieldNat s.profile fldStop)) }
  have hround : e.ctx c = some d.emptied := get_set_same _ _ _
  have hother (k : CtxId) (hk : k ≠ c) : e.ctx k = none := (get_set_other _ _ hk).trans (hbusy k hk)
  have hphase : d.emptied.phase.ignoresSamples := by
    rw [show d.emptied.phase = d.phase from d.takeCause_phase _]
    obtain hp | hp := hp
    · rw [hp]; exact ⟨by decide, by decide, by decide, by decide⟩
    · rw [hp]; exact ⟨by decide, by decide, by decide, by decide⟩
  have hcharger := kept.leads_charger_quiet (prev := was) s.profile
    (.arrival .water was :: (ctxArrivals was allCtxs ++ [.arrival .board was])) fun h => hfault ▸ h
  have hpath := kept.leads_path_empties s.profile was (ctxArrivals was allCtxs ++ [.arrival .board was]) hempty hqueue hc
    hholds hp hco hf hb hv
  have hctxs := e.leads_ctxs s.profile was [.arrival .board was] hother hother
    fun vs => Engine.ctxArrival_ignored (e := e.hand vs) s.profile hround hphase
  have hboard := e.leads_board_quiet (prev := was) s.profile [] fun h => hfault.trans h
  have hevents : e.raised = reservoirEvents was (linesOf r) := by
    show s.eng.raised ++ _ = _
    rw [hs.2.2]
    rfl
  have hexec := exec_sample_leads (e := e) hs hq (hcharger.trans (hpath.trans (hctxs.trans hboard))) (by decide) hs.2.1
  rw [hevents] at hexec
  have hcalm := congrArg (fun evs => ({ e with raised := evs } : Engine)) hs.2.2.symm
  exact hexec.trans (congrArg (fun x => Host.Outcome.next { s with
    alert := (reservoirEvents was (linesOf r)).foldl Alert.capture s.alert
    eng := x }) hcalm)

end Sys2Proof.Machine
end

section
/-! SUPPORT. A fall of CHG_FAULT and the order it starts (R14 to R16, R87), and the statement about samples. -/

namespace Sys2Proof.Machine

/-! ## A fall of CHG_FAULT (R87) -/

/-- A fall of CHG_FAULT on a part where no context is busy: what the dispatch scan leads to is all. -/
theorem exec_sample_fall {s : State} {r : Readings} {k : Nat} {e : Engine} (hs : s.attending)
    (hq : s.eng.qualifierOwed = none) (hidle : ∀ c, s.eng.ctx c = none)
    (hwas : (latestLines s.eng.latest).chgFault = true) (hnow : r.chgFault = false)
    (hlow : r.resLow = (latestLines s.eng.latest).resLow) (hempty : r.resEmpty = false)
    (hwater : s.eng.water.state ≠ .empty)
    (hl : ((s.eng.sampled s.profile r).hand [.scan]).Leads s.profile k e) (hk : k ≤ 900) (hw : e.agenda = [])
    (hr : e.raised = []) : exec (.sample r []) s = .next { s with eng := e } := by
  let kept := s.eng.sampled s.profile r
  let was := latestLines s.eng.latest
  have hcharger := kept.leads_charger_idle s.profile was
    (.arrival .water was :: (ctxArrivals was allCtxs ++ [.arrival .board was])) hidle
  have hpath := kept.leads_water_quiet (prev := was) s.profile (ctxArrivals was allCtxs ++ [.arrival .board was]) hlow hempty
    hwater
  have hctxs := kept.leads_ctxs_idle s.profile was [.arrival .board was] hidle
  have hboard := kept.leads_board_fall (prev := was) s.profile [] hnow hwas
  exact exec_sample_quiet hs hq (hcharger.trans (hpath.trans (hctxs.trans (hboard.trans hl)))) (by omega) hw hr

/-- A part that is idle but for the one queued order, with nothing claimed and its line WAKING: CHG_FAULT falls. -/
structure State.FallsFor (s : State) (r : Readings) (n : SlotId) (g : StringId) : Prop where
  attends : s.attending
  owed : s.eng.qualifierOwed = none
  queue : s.eng.board.queue = [n]
  mark : (s.eng.slot n).mark = .queued
  idle : ∀ c, s.eng.ctx c = none
  blank : s.eng.claims = Claims.blank
  waking : s.eng.line.state = .waking
  low : r.resLow = (latestLines s.eng.latest).resLow
  notEmpty : r.resEmpty = false
  path : s.eng.water.state ≠ .empty
  was : (latestLines s.eng.latest).chgFault = true
  now : r.chgFault = false
  lowest : (s.eng.slot n).lowest g
  sound : ∀ k : StringId, (orderMask (s.eng.slot n)).getLsbD k.val = true →
    (s.eng.str k).census = .established ∧ (s.eng.str k).sel ≠ .faulted

section
variable {s : State} {r : Readings} {n : SlotId} {g : StringId}

theorem State.FallsFor.chargerFree (h : s.FallsFor r n g) : (s.eng.sampled s.profile r).chargerFree = true :=
  Engine.chargerFree_blank h.blank h.now

theorem State.FallsFor.ready (h : s.FallsFor r n g) {k : Kind} (hk : orderKind (s.eng.slot n) = some k)
    (hn : (s.eng.sampled s.profile r).needsMet s.profile n = true) : (s.eng.sampled s.profile r).Ready s.profile n k where
  queue := h.queue
  mark := h.mark
  idle := h.idle
  kind := hk
  needs := hn

/-- The EQUALISE starts with a CHECK sweep of its lowest string. -/
theorem State.FallsFor.equalises (h : s.FallsFor r n g) (hk : orderKind (s.eng.slot n) = some .equalise)
    (hw : thenWater (s.eng.slot n) = false)
    (hst : ∀ k : StringId, (orderMask (s.eng.slot n)).getLsbD k.val = true → (s.eng.str k).stranded = false)
    (hsup : s.eng.supply.state = .rich ∨ (s.eng.supply.state = .generator ∧ allowGenerator (s.eng.slot n) = true)) :
    exec (.sample r []) s = .next { s with
      eng := ((s.eng.sampled s.profile r).dispatched 0 n .equalise).withRequest 0
        ((s.eng.sampled s.profile r).firstRound n .equalise g .check) (oneString g) .check } := by
  have hready (k : StringId) (hm : (orderMask (s.eng.slot n)).getLsbD k.val = true) :
      (s.eng.sampled s.profile r).stringReady k = true :=
    Engine.stringReady_iff.mpr ⟨Engine.owner_blank h.blank k, (h.sound k hm).2, hst k hm, (h.sound k hm).1⟩
  have hneeds : (s.eng.sampled s.profile r).needsMet s.profile n = true :=
    Engine.needsMet_equalise _ (Engine.freeCtx_idle h.idle) hk h.chargerFree hready (equaliseAllowed_iff.mpr hsup) h.waking
      fun ht => absurd (hw.symm.trans ht) (by decide)
  exact exec_sample_fall h.attends h.owed h.idle h.was h.now h.low h.notEmpty h.path
    (Engine.leads_equalise (h.ready hk hneeds) h.lowest (h.sound g h.lowest.1).2 h.waking) (by decide) h.attends.2.1
    h.attends.2.2

/-- The RETURN starts with an ESTIMATE sweep of its lowest string. -/
theorem State.FallsFor.givesBack (h : s.FallsFor r n g) (hk : orderKind (s.eng.slot n) = some .giveBack)
    (hst : ∀ k : StringId, (orderMask (s.eng.slot n)).getLsbD k.val = true → (s.eng.str k).stranded = true) :
    exec (.sample r []) s = .next { s with
      eng := ((s.eng.sampled s.profile r).dispatched 0 n .giveBack).withRequest 0
        { (s.eng.sampled s.profile r).firstRound n .giveBack g .sweeping with leftLoad := true } (oneString g)
        .estimate } := by
  have hready (k : StringId) (hm : (orderMask (s.eng.slot n)).getLsbD k.val = true) :
      (s.eng.sampled s.profile r).stringReturnable k = true :=
    Engine.stringReturnable_iff.mpr ⟨Engine.owner_blank h.blank k, hst k hm, (h.sound k hm).1⟩
  have hneeds : (s.eng.sampled s.profile r).needsMet s.profile n = true :=
    Engine.needsMet_giveBack _ (Engine.freeCtx_idle h.idle) hk h.chargerFree hready
  exact exec_sample_fall h.attends h.owed h.idle h.was h.now h.low h.notEmpty h.path
    (Engine.leads_giveBack (h.ready hk hneeds) h.lowest (h.sound g h.lowest.1).2 h.waking) (by decide) h.attends.2.1
    h.attends.2.2

/-- An order that a sample starts, by its kind, the phase of its first step and the sweep it requests. -/
def State.SampleStarts (s : State) (r : Readings) (n : SlotId) (g : StringId) (k : Kind) (ph : Phase) (u : Purpose) : Prop :=
  ∃ t d, exec (.sample r []) s = .next t ∧ (t.eng.slot n).mark = .running ∧ t.eng.board.queue = []
    ∧ (t.eng.slot n).result.started = s.eng.sampleTime ∧ t.eng.claims.charger = some 0
    ∧ (∀ j : StringId, t.eng.owner j = if (orderMask (s.eng.slot n)).getLsbD j.val = true then some 0 else none)
    ∧ t.eng.ctx 0 = some d ∧ d.slot = n ∧ d.kind = k ∧ d.phase = ph ∧ d.phaseStart = s.eng.sampleTime ∧ d.cur = some g
    ∧ t.eng.line.list = s.eng.line.list ++ [{ ctx := 0, slot := n, mask := 1#8 <<< g.val, purpose := u }]
    ∧ t.eng.strings = s.eng.strings ∧ t.eng.charger = s.eng.charger ∧ t.alert = s.alert
    ∧ t.eng.latest = (s.eng.sampled s.profile r).latest

theorem State.FallsFor.starts (h : s.FallsFor r n g) {k : Kind} {ph : Phase} {u : Purpose} {d : Round}
    (hk : orderKind (s.eng.slot n) = some k) (hne : k ≠ .survey) (hu : usesCharger (s.eng.slot n) = true)
    (hd : ∃ b, d = { (s.eng.sampled s.profile r).firstRound n k g ph with leftLoad := b })
    (hx : exec (.sample r []) s = .next { s with
      eng := ((s.eng.sampled s.profile r).dispatched 0 n k).withRequest 0 d (oneString g) u }) :
    s.SampleStarts r n g k ph u := by
  obtain ⟨b, rfl⟩ := hd
  let kept := s.eng.sampled s.profile r
  have hslot := kept.dispatched_slot 0 n k
  have hclaims := Engine.takeClaims_blank (e := kept) (y := s.eng.slot n) 0 h.blank
    fun hs => hne (Option.some.inj (hk.symm.trans hs))
  refine ⟨_, _, hx, (congrArg Slot.mark hslot :), rfl, (congrArg (fun y => y.result.started) hslot :), if_pos hu,
    fun j => ?_, get_set_same _ _ _, rfl, rfl, rfl, rfl, rfl, rfl, rfl, rfl, rfl, rfl⟩
  exact (congrArg (fun q : Claims => q.strings.get j) hclaims).trans (get_ofFn _ j)

end

/-! ## The statement about samples -/

/-- Settles O35: the sample that is held, the one busy context by its phase, the lines of the site, and a fall of
CHG_FAULT. -/
theorem sampleIsClampedAndKept : Obligations.SampleIsClampedAndKept := by
  unfold Obligations.SampleIsClampedAndKept
  refine ⟨fun s r order hs => ?_, fun s r hs hq hqueue => ?_, fun s r n g hs hq hqueue hm hidle hb hl hlow hempty hw => ?_⟩
  · obtain ⟨t, ht, hlatest⟩ := exec_sample_latest (r := r) (order := order) hs
    exact ⟨t, ht, _, hlatest, rfl, min_def_lt _ _, min_def_lt _ _, sampleOf_eqAmps _ r, rfl⟩
  · intro now x was kept leaves near toOpen
    refine ⟨fun c d g hd hbusy hfault hlow hempty hw => ?_, fun hwas hnow hlow hempty hw => ⟨fun c d hc hbusy hch hp => ?_,
      fun hidle => ?_⟩, fun hfault => ⟨fun hidle hv hc => ?_, fun c d g hc hbusy hholds hp hco hf hb hv hempty => ?_⟩⟩
    · obtain ⟨hround, hcur, hcharger, howner, hfitted⟩ := hd
      have h : s.TakesAlone r c d g :=
        ⟨hs, hq, hround, hcur, hcharger, howner, hfitted, hbusy, hfault, hlow, hempty, hw⟩
      refine ⟨fun hp hk => ⟨fun hnear hsel hothers => ?_, fun hfar => ?_⟩, fun hp => ⟨fun hx => ?_, fun hx hl => ?_⟩,
        fun hp => ⟨fun hcap ht => ?_, fun hends => ?_⟩, fun hp hsel => ⟨fun hf => ?_, fun hf hnear => ?_, fun hf hfar => ?_⟩⟩
      · exact h.connects hp hk (inBand_iff.mpr hnear) hsel hothers
      · exact h.waits hp hk (mt inBand_iff.mp hfar)
      · exact h.ramps hp hx
      · exact h.holds hp hx hl
      · exact h.holdsOn hp hcap ht
      · exact h.matches hp hends
      · exact h.strands hp hsel hf
      · exact h.returns hp hsel hf (inBand_iff.mpr hnear)
      · exact h.follows hp hf (mt inBand_iff.mp hfar)
    · exact exec_sample_rise hs hq hwas hnow hlow hempty hw hc hbusy hch hp
    · exact exec_sample_idle hs hq hidle hlow hempty hw fun h => absurd (hwas.symm.trans h) (by decide)
    · have hx := exec_sample_path hs hq hqueue hidle hfault hv hc
      rw [foldl_reservoirEvents] at hx
      exact hx
    · have hx := exec_sample_empties hs hq hqueue hbusy hfault hempty hc hholds hp hco hf hb hv
      rw [foldl_reservoirEvents] at hx
      exact hx
  · intro now kept y m every starts
    refine ⟨fun hstays => ?_, fun hwas hnow hg hmin hevery => ?_⟩
    · refine exec_sample_idle hs hq hidle hlow hempty hw fun hwas => ?_
      exact hstays.resolve_right fun h => absurd (hwas.symm.trans h) (by decide)
    · have h : s.FallsFor r n g :=
        ⟨hs, hq, hqueue, hm, hidle, hb, hl, hlow, hempty, hw, hwas, hnow, ⟨hg, hmin⟩, hevery⟩
      refine ⟨fun hcode hwater hst hsup => ?_, fun hcode hst => ?_⟩
      · have hk := orderKind_equalise.mpr hcode
        exact h.starts hk (by decide) (usesCharger_iff.mpr (.inl hcode)) ⟨_, rfl⟩ (h.equalises hk hwater hst hsup)
      · have hk := orderKind_giveBack.mpr hcode
        exact h.starts hk (by decide) (usesCharger_iff.mpr (.inr hcode)) ⟨_, rfl⟩ (h.givesBack hk hst)

end Sys2Proof.Machine
end

section
/-! SUPPORT. What a round keeps and what it records as it takes a cause (R35, R36), and events that work hands over (log 15). -/

namespace Sys2Proof.Machine

/-! ## Outcomes of a round's strings (R28) -/

/-- The list of the present part: the watering part of an EQUALISE has its own (R28). -/
def Round.outcomes (r : Round) : Vector Outcome 8 :=
  if r.inWatering = true ∧ r.kind = .equalise then r.watering else r.primary

/-- An outcome goes into one of the two lists, and nothing else changes. -/
theorem Round.putOutcome_lists (r : Round) (g : StringId) (o : Outcome) :
    ∃ a b, r.putOutcome g o = { r with primary := a, watering := b } := by
  unfold Round.putOutcome
  split
  · exact ⟨r.primary, _, rfl⟩
  · exact ⟨_, r.watering, rfl⟩

theorem Round.foldl_putOutcome_lists (l : List StringId) (o : Outcome) (r : Round) :
    ∃ a b, l.foldl (fun r g => r.putOutcome g o) r = { r with primary := a, watering := b } := by
  induction l generalizing r with
  | nil => exact ⟨r.primary, r.watering, rfl⟩
  | cons g l ih =>
    obtain ⟨a, b, hone⟩ := r.putOutcome_lists g o
    obtain ⟨a', b', hrest⟩ := ih (r.putOutcome g o)
    exact ⟨a', b', hrest.trans (by rw [hone])⟩

theorem Round.outcomes_putOutcome_same (r : Round) (g : StringId) (o : Outcome) :
    (r.putOutcome g o).outcomes.get g = o := by
  by_cases h : r.inWatering = true ∧ r.kind = .equalise <;> simp [Round.outcomes, Round.putOutcome, h, get_set_same]

theorem Round.outcomes_putOutcome_other (r : Round) {g k : StringId} (o : Outcome) (hk : k ≠ g) :
    (r.putOutcome g o).outcomes.get k = r.outcomes.get k := by
  by_cases h : r.inWatering = true ∧ r.kind = .equalise <;> simp [Round.outcomes, Round.putOutcome, h, get_set_other _ _ hk]

theorem Round.outcomes_foldl_putOutcome (l : List StringId) (o : Outcome) (r : Round) (k : StringId) :
    (l.foldl (fun r g => r.putOutcome g o) r).outcomes.get k = if k ∈ l then o else r.outcomes.get k := by
  induction l generalizing r with
  | nil => rfl
  | cons g l ih =>
    rw [List.foldl_cons, ih]
    by_cases hl : k ∈ l
    · simp [hl]
    · by_cases hk : k = g
      · simp [hk, r.outcomes_putOutcome_same]
      · simp [hl, hk, r.outcomes_putOutcome_other o hk]

/-- The strings of the mask have the outcome, the others the one they had. -/
theorem Round.outcomes_putOutcomes (r : Round) (m : StringMask) (o : Outcome) (k : StringId) :
    (r.putOutcomes m o).outcomes.get k = if m.getLsbD k.val = true then o else r.outcomes.get k := by
  rw [Round.putOutcomes, Round.outcomes_foldl_putOutcome]
  simp only [mem_stringsOf]

/-! ## A cause is taken (R35, R36) -/

theorem Round.takeCause_later {r : Round} (x : Cause) (h : r.firstCause ≠ none) :
    r.takeCause x = { r with laterCauses := min 255 (r.laterCauses + 1) } := by
  simp [Round.takeCause, Option.isSome_iff_ne_none, h, bump]

theorem Round.takeCause_first {r : Round} (x : Cause) (h : r.firstCause = none) :
    r.takeCause x = { r.putOutcomes r.remaining .notReached with firstCause := some x, remaining := 0 } := by
  simp [Round.takeCause, h]

/-- What a cause leaves as it is: all but the causes, the strings remaining and the outcomes. -/
theorem Round.takeCause_keeps (r : Round) (x : Cause) : ∃ first rest later a b, r.takeCause x =
    { r with firstCause := first, remaining := rest, laterCauses := later, primary := a, watering := b } := by
  by_cases h : r.firstCause = none
  · obtain ⟨a, b, hlists⟩ := Round.foldl_putOutcome_lists (stringsOf r.remaining) .notReached r
    exact ⟨some x, 0, r.laterCauses, a, b, by rw [Round.takeCause_first x h, Round.putOutcomes, hlists]⟩
  · exact ⟨_, _, _, _, _, Round.takeCause_later x h⟩

theorem Round.takeCause_cur (r : Round) (x : Cause) : (r.takeCause x).cur = r.cur := by
  obtain ⟨_, _, _, _, _, h⟩ := r.takeCause_keeps x; rw [h]

theorem Round.takeCause_slot (r : Round) (x : Cause) : (r.takeCause x).slot = r.slot := by
  obtain ⟨_, _, _, _, _, h⟩ := r.takeCause_keeps x; rw [h]

theorem Round.takeCause_kind (r : Round) (x : Cause) : (r.takeCause x).kind = r.kind := by
  obtain ⟨_, _, _, _, _, h⟩ := r.takeCause_keeps x; rw [h]

theorem Round.takeCause_inWatering (r : Round) (x : Cause) : (r.takeCause x).inWatering = r.inWatering := by
  obtain ⟨_, _, _, _, _, h⟩ := r.takeCause_keeps x; rw [h]

theorem Round.takeCause_leftLoad (r : Round) (x : Cause) : (r.takeCause x).leftLoad = r.leftLoad := by
  obtain ⟨_, _, _, _, _, h⟩ := r.takeCause_keeps x; rw [h]

theorem Round.takeCause_pendingOutcome (r : Round) (x : Cause) :
    (r.takeCause x).pendingOutcome = r.pendingOutcome := by
  obtain ⟨_, _, _, _, _, h⟩ := r.takeCause_keeps x; rw [h]

theorem Round.takeCause_firstCause {r : Round} (x : Cause) (h : r.firstCause = none) :
    (r.takeCause x).firstCause = some x := by rw [Round.takeCause_first x h]

theorem Round.takeCause_remaining {r : Round} (x : Cause) (h : r.firstCause = none) :
    (r.takeCause x).remaining = 0 := by rw [Round.takeCause_first x h]

theorem Round.takeCause_laterCauses {r : Round} (x : Cause) (h : r.firstCause = none) :
    (r.takeCause x).laterCauses = r.laterCauses := by
  obtain ⟨a, b, hlists⟩ := Round.foldl_putOutcome_lists (stringsOf r.remaining) .notReached r
  rw [Round.takeCause_first x h, Round.putOutcomes, hlists]

/-- The strings remaining read NOT_REACHED from the first cause on (R35). -/
theorem Round.takeCause_outcomes {r : Round} (x : Cause) (h : r.firstCause = none) (k : StringId) :
    (r.takeCause x).outcomes.get k = if r.remaining.getLsbD k.val = true then .notReached else r.outcomes.get k := by
  rw [Round.takeCause_first x h]
  exact r.outcomes_putOutcomes r.remaining .notReached k

/-- The same, for the list of the part the round was in as it took the cause. -/
theorem Round.takeCause_list {r : Round} (x : Cause) (h : r.firstCause = none) (k : StringId) :
    (if r.inWatering = true ∧ r.kind = .equalise then (r.takeCause x).watering else (r.takeCause x).primary).get k
      = if r.remaining.getLsbD k.val = true then .notReached
        else (if r.inWatering = true ∧ r.kind = .equalise then r.watering else r.primary).get k := by
  have hlist := Round.takeCause_outcomes x h k
  simp only [Round.outcomes, r.takeCause_inWatering x, r.takeCause_kind x] at hlist
  exact hlist

/-- The first cause brings the string to rest; a later one is counted (R35, R36). -/
theorem Engine.takeCause_first {e : Engine} {r : Round} (p : Profile) (c : CtxId) (x : Cause) (h : r.firstCause = none) :
    e.takeCause p c r x = e.bringToRest p c (r.takeCause x) x := by
  simp [Engine.takeCause, h]

theorem Engine.takeCause_later {e : Engine} {r : Round} (p : Profile) (c : CtxId) (x : Cause) (h : r.firstCause ≠ none) :
    e.takeCause p c r x = e.putRound c (r.takeCause x) := by
  simp [Engine.takeCause, Option.isSome_iff_ne_none, h]

/-- A cause that is handed over reaches the context, if it still carries out the slot. -/
theorem Engine.work_cause {e : Engine} {c : CtxId} {r : Round} (p : Profile) (x : Cause) (h : e.ctx c = some r) :
    e.work p (.cause c r.slot x) = e.takeCause p c r x := by
  simp only [Engine.work, Engine.withRound, h, if_true]

/-! ## Events that work hands over (log 15) -/

/-- What the blocks do where few enough pieces of work lead to `e` with some events handed: the events are judged. -/
theorem State.act_leads_raised {s : State} {f : Engine → Engine} {n : Nat} {e : Engine} {evs : List Event}
    (h : (f s.eng).Leads s.profile n { e with raised := evs }) (hn : n ≤ 1000) (ha : e.agenda = []) (hr : e.raised = []) :
    s.act f = { s with eng := e, alert := evs.foldl Alert.capture s.alert } := by
  rw [State.act_leads h hn ha]
  exact congrArg (fun x => ({ s with eng := x, alert := evs.foldl Alert.capture s.alert } : State))
    (congrArg (fun x => ({ e with raised := x } : Engine)) hr.symm)

/-! ## The timers of a phase (R94) -/

/-- A timer of the context's phase that the clock has reached: what its expiry does. -/
theorem Engine.phaseTimer_reached {e : Engine} {c : CtxId} {ph : Phase} {r : Round} {deadline : Round → Clock}
    (active : Bool) (f : Round → Engine → Engine) (hc : e.ctx c = some r) (hp : r.phase = ph)
    (hdue : (e.clock - deadline r).toNat < 2 ^ 31) : e.phaseTimer active c ph deadline f = f r e := by
  simp only [Engine.phaseTimer, hc, hp, if_true, Engine.due_reached active hdue]

end Sys2Proof.Machine
end

section
/-! SUPPORT. The dry timer (R155), and a pin reset as the part leaves it (R42, R44, R114, R195). -/

namespace Sys2Proof.Machine

/-! ## The dry timer (R155) -/

/-- The path as a close leaves it, with the valve of `g` open (R146, R148). -/
def Water.closed (w : Water) (g : StringId) (till : Clock) : Water :=
  { w with valve := none, pump := false, coast := some (g, till) }

theorem Engine.closeValve_open {e : Engine} (p : Profile) {g : StringId} (h : e.water.valve = some g) :
    e.closeValve p = { e with water := e.water.closed g (after e.clock (fieldNat p fldStop)) } := by
  simp only [Engine.closeValve, h]
  rfl

theorem Engine.closeValve_shut {e : Engine} (p : Profile) (h : e.water.valve = none) : e.closeValve p = e := by
  simp only [Engine.closeValve, h]

/-- The outcome of a fill that a cause ends (R163). -/
def Cause.fillEnd (x : Cause) : Outcome := if x = .reservoirEmpty then .reservoirEmpty else .siteAbort

/-- A context in PRIME takes its first cause, its valve closed already: the coast goes on with the cause's outcome. -/
theorem Engine.takeCause_prime {e : Engine} (p : Profile) (c : CtxId) {r : Round} (x : Cause)
    (hf : r.firstCause = none) (hp : r.phase = .prime) (hco : r.coasting = false) (hv : e.water.valve = none) :
    e.takeCause p c r x = e.putRound c { r.takeCause x with pendingOutcome := some x.fillEnd, coasting := true } := by
  have hphase : (r.takeCause x).phase = .prime := (r.takeCause_phase x).trans hp
  have hcoasting : (r.takeCause x).coasting = false := (r.takeCause_coasting x).trans hco
  rw [Engine.takeCause_first p c x hf, Engine.bringToRest, hphase]
  simp only [hcoasting, Bool.false_eq_true, if_false, Engine.endFill, Engine.closeValve_shut p hv]
  rfl

/-- A path with no valve open is faulted (R145). -/
theorem Engine.faultPath_shut {e : Engine} (p : Profile) (x : PathCause) (h : e.water.valve = none) :
    e.faultPath p x = { e with
      water := { e.water with state := .faulted, cause := x }, raised := e.raised ++ [.waterFault] } := by
  rw [Engine.faultPath, Engine.closeValve_shut p h]
  rfl

/-- The dry timer expires with the valve open: the valve closes; with RES_EMPTY clear the path is faulted too. -/
theorem Engine.dryExpiry_open {e : Engine} (p : Profile) {c : CtxId} {r : Round} {g : StringId} (hc : e.ctx c = some r)
    (hp : r.phase = .prime) (hco : r.coasting = false) (hv : e.water.valve = some g)
    (hdue : (e.clock - after r.phaseStart (fieldNat p fldDry)).toNat < 2 ^ 31) :
    e.dryExpiry p true c =
      (let shut : Engine := { e with water := e.water.closed g (after e.clock (fieldNat p fldStop)) }
       if (latestLines e.latest).resEmpty = true then shut.hand [.cause c r.slot .reservoirEmpty]
       else (shut.faultPath p .dry).hand [.cause c r.slot .pumpFault, .scan]) := by
  have hbody : e.dryExpiry p true c = if r.coasting then e
      else if (latestLines e.latest).resEmpty then (e.closeValve p).hand [.cause c r.slot .reservoirEmpty]
      else ((e.closeValve p).faultPath p .dry).hand [.cause c r.slot .pumpFault, .scan] := by
    exact Engine.phaseTimer_reached (deadline := fun r => after r.phaseStart (fieldNat p fldDry)) true _ hc hp hdue
  rw [hbody, hco, Engine.closeValve_open p hv]
  rfl

/-- Settles O58: the expiry by RES_EMPTY, then the cause it hands the context. -/
theorem dryTimeFaultsThePath : Obligations.DryTimeFaultsThePath := by
  unfold Obligations.DryTimeFaultsThePath
  intro s c r g hs hc _ hp hco hf hv _ hq hdue till closed
  have hexpiry := Engine.dryExpiry_open s.profile hc hp hco hv hdue
  have hexec (t : State) (h : s.act (fun e => e.dryExpiry s.profile true c) = t) :
      exec (.dryTimerExpiry c) s = .next t :=
    congrArg Host.Outcome.next ((State.whenAwake_attending s _ hs).trans h)
  refine ⟨fun hfull => hexec _ ?_, fun hempty => hexec _ ?_⟩
  · let faulted : Engine := { s.eng with
      water := { closed with state := .faulted, cause := .dry }, raised := s.eng.raised ++ [.waterFault] }
    let coasts : Round := { r.takeCause .pumpFault with pendingOutcome := some .siteAbort, coasting := true }
    have hcause : (faulted.hand [.scan]).work s.profile (.cause c r.slot .pumpFault)
        = (faulted.putRound c coasts).hand [.scan] :=
      (Engine.work_cause (e := faulted.hand [.scan]) s.profile _ hc).trans
        (Engine.takeCause_prime s.profile c .pumpFault hf hp hco rfl)
    have hleads : (s.eng.dryExpiry s.profile true c).Leads s.profile 2 (faulted.putRound c coasts) := by
      rw [hexpiry, if_neg (by rw [hfull]; decide), Engine.faultPath_shut s.profile .dry (by rfl)]
      exact .step hcause (Engine.leads_scan_empty s.profile [] hq)
    have hact := State.act_leads_raised (f := fun e => e.dryExpiry s.profile true c)
      (e := { s.eng.putRound c coasts with water := { closed with state := .faulted, cause := .dry } })
      hleads (by decide) hs.2.1 hs.2.2
    have hevents : faulted.raised = [.waterFault] := congrArg (· ++ [Event.waterFault]) hs.2.2
    rw [hevents] at hact
    exact hact
  · let shut : Engine := { s.eng with water := closed }
    let coasts : Round := { r.takeCause .reservoirEmpty with pendingOutcome := some .reservoirEmpty, coasting := true }
    have hcause : shut.work s.profile (.cause c r.slot .reservoirEmpty) = shut.putRound c coasts :=
      (Engine.work_cause (e := shut) s.profile _ hc).trans
        (Engine.takeCause_prime s.profile c .reservoirEmpty hf hp hco rfl)
    have hleads : (s.eng.dryExpiry s.profile true c).Leads s.profile 1 (shut.putRound c coasts) := by
      rw [hexpiry, if_pos hempty]
      exact .step hcause (.refl s.profile _)
    exact State.act_leads_quiet (f := fun e => e.dryExpiry s.profile true c) hleads (by decide) hs.2.1 hs.2.2

/-! ## A pin reset is left (R42, R44, R114, R195) -/

/-- PIN_RESET is captured whatever the enables, and ALERT# follows the holdoff timer (R182, R187, R195). -/
theorem Alert.leave_pin (a : Alert) : a.leave .pin =
    { a with status := a.status ||| 0x0002, resetCause := 2, asserted := a.holdoff.isNone } := by
  simp [Alert.leave, Alert.capture, Alert.captures, Alert.refresh, Event.mask, Event.bit]

/-- Settles O22: the alert unit, the strings one by one, and the line by the confirmed flag. -/
theorem pinResetIsLeft : Obligations.PinResetIsLeft := by
  unfold Obligations.PinResetIsLeft
  intro s low contacts hheld hoff
  let strings : Vector StringRec 8 := Vector.ofFn fun g =>
    { (s.eng.str g).examine s.eng.clock with observed := contacts.get g }
  let line : Line := { s.eng.line with state := if isConfirmed s.profile then .asleep else .off }
  have heng : s.eng.leave s.profile contacts
      = { s.eng with strings := strings, settling := some (fieldNat s.profile fldTransfer), line := line } := by
    cases hconf : isConfirmed s.profile with
    | true => simp [Engine.leave, Engine.wakeFromOff, Engine.modLine, hconf, hoff, line, strings]
    | false =>
      simp [Engine.leave, hconf, line, strings, ← hoff]
  refine ⟨s.leaveReset .pin low contacts, ?_, rfl, rfl, rfl, s.alert.leave_pin, ?_⟩
  · simp only [exec, execPinReset, hheld, if_true]
  · show (s.eng.leave s.profile contacts).settling = _ ∧ _
    have hleft : (s.leaveReset .pin low contacts).eng = _ := heng
    rw [hleft, heng]
    refine ⟨rfl, rfl, fun g => (get_ofFn _ g).trans ?_, rfl, rfl, rfl⟩
    rw [StringRec.examine]
    split <;> rfl

end Sys2Proof.Machine
end

section
/-! SUPPORT. The last string of an EQUALISE or RETURN closes: the order settles, and what its context held is released
(R21, R31, R32, R38, R132, R140). -/

namespace Sys2Proof.Machine

/-! ## What a finished round leaves (R21, R24, R31) -/

/-- The end of a stand-down concerns the board's note alone; with no stand-down, no event is handed. -/
theorem Engine.endStandDown_eq (e : Engine) : ∃ b evs, e.endStandDown =
    { e with board := { e.board with standingDown := b }, raised := e.raised ++ evs }
      ∧ (e.board.standingDown = false → evs = []) := by
  by_cases h : (e.board.standingDown && !e.anyBusy) = true
  · refine ⟨false, [.standDownDone], if_pos h, fun hno => ?_⟩
    simp [hno] at h
  · refine ⟨e.board.standingDown, [], (if_neg h).trans ?_, fun _ => rfl⟩
    simp only [List.append_nil]

/-- The release of the path concerns the path alone, and does not empty it. -/
theorem Engine.releasePath_eq (e : Engine) (p : Profile) (c : CtxId) : ∃ w, e.releasePath p c = { e with water := w }
    ∧ (e.water.state ≠ .empty → w.state ≠ .empty) := by
  by_cases h : e.claims.water = some c
  · have hclose : ∃ w, e.closeValve p = { e with water := w } ∧ w.state = e.water.state := by
      cases hv : e.water.valve with
      | none => exact ⟨e.water, Engine.closeValve_shut p hv, rfl⟩
      | some g => exact ⟨_, Engine.closeValve_open p hv, rfl⟩
    obtain ⟨w, hw, hstate⟩ := hclose
    refine ⟨{ w with state := if w.state = .busy then .ready else w.state }, (if_pos h).trans (by rw [hw]), fun hne => ?_⟩
    show (if w.state = .busy then PathState.ready else w.state) ≠ .empty
    split
    · decide
    · rwa [hstate]
  · exact ⟨e.water, if_neg h, id⟩

/-- A finished round of the charger's holder: its slot is settled, its context free, its claims and requests gone. -/
theorem Engine.finish_holder {e : Engine} (p : Profile) {c : CtxId} (r : Round) (h : e.claims.charger = some c) :
    ∃ w b evs, e.finish p c r = ({ e with
        board := { (e.putSlot r.slot ((e.slot r.slot).settle r e.clock)).board with standingDown := b },
        ctxs := e.ctxs.set c none, claims := e.claims.dropCtx c, line := (e.withdrawSweep c).line,
        charger := { enable := false, setpoint := 0, limit := 0 }, water := w,
        raised := e.raised ++ .settled :: evs } : Engine).hand [.scan]
      ∧ (e.board.standingDown = false → evs = []) ∧ (e.water.state ≠ .empty → w.state ≠ .empty) := by
  let settled := (e.modSlot r.slot fun y => y.settle r e.clock).raise .settled
  let off : Engine := { settled with charger := { enable := false, setpoint := 0, limit := 0 } }
  obtain ⟨w, hw, hpath⟩ := off.releasePath_eq p c
  let free : Engine :=
    { (({ off with water := w } : Engine).withdrawSweep c).setCtx c none with claims := e.claims.dropCtx c }
  obtain ⟨b, evs, hb, hevs⟩ := free.endStandDown_eq
  refine ⟨w, b, evs, ?_, hevs, hpath⟩
  have hoff : settled.chargerDisable c = off := Engine.chargerDisable_holder h
  have hfree : settled.freeContext p c = free := by
    rw [Engine.freeContext, hoff, hw]
    rfl
  show (settled.freeContext p c).endStandDown.hand [.scan] = _
  rw [hfree, hb, show free.raised = e.raised ++ [.settled] from rfl, List.append_assoc]
  rfl

/-- A context that has withdrawn its sweep has no request (R47, R48). -/
theorem Engine.hasRequest_withdrawSweep (e : Engine) (c : CtxId) : (e.withdrawSweep c).hasRequest c = false := by
  have hlist : ((e.line.list.filter fun q => q.ctx != c).any fun q => q.ctx == c) = false := by
    simp [List.any_eq_false]
  cases hsweep : e.line.sweep with
  | none => simp [Engine.hasRequest, Engine.withdrawSweep, hsweep, hlist]
  | some w =>
    by_cases hc : w.req.ctx = c <;>
      simp [Engine.hasRequest, Engine.withdrawSweep, hsweep, hlist, Sweep.withdraw, hc]

/-! ## The history of a string (R132, R140) -/

/-- The record of a string that closes. -/
def Round.history (d : Round) (p : Profile) (o : Outcome) (now : Clock) (x : StringRec) : StringRec :=
  if d.leftLoad then if d.kind = .giveBack then x.returned o now else x.equalised p o d.enteredRamp now else x

/-- Writing what a record reads changes nothing. -/
theorem Engine.putStr_str (e : Engine) (g : StringId) : e.putStr g (e.str g) = e := by
  have hset : e.strings.set g (e.strings.get g) = e.strings := Vector.set_getElem_self _
  rw [Engine.putStr, Engine.str, hset]

theorem Engine.primaryHistory_eq (e : Engine) (p : Profile) (d : Round) (g : StringId) (o : Outcome) :
    e.primaryHistory p d g o = e.putStr g (d.history p o e.clock (e.str g)) := by
  unfold Engine.primaryHistory Round.history
  split
  · split <;> rfl
  · exact (e.putStr_str g).symm

/-! ## The last string closes (R32, R38) -/

/-- A round as its current string closes (R26, R33). -/
def Round.closed (d : Round) (g : StringId) (o : Outcome) : Round :=
  { d.putOutcome g o with cur := none, perCell := 0, pendingOutcome := some o }

/-- The string in work is the last of its order, whose slot is `y`: a cause has ended the order, or none remains and
no watering follows. -/
structure Round.OnLast (d : Round) (y : Slot) : Prop where
  charges : d.kind = .equalise ∨ d.kind = .giveBack
  primary : d.inWatering = false
  ends : d.firstCause ≠ none ∨ (d.remaining = 0 ∧ thenWater y = false)

theorem Round.closed_keeps (d : Round) (g : StringId) (o : Outcome) : (d.closed g o).slot = d.slot
    ∧ (d.closed g o).kind = d.kind ∧ (d.closed g o).inWatering = d.inWatering
    ∧ (d.closed g o).firstCause = d.firstCause ∧ (d.closed g o).remaining = d.remaining := by
  obtain ⟨a, b, h⟩ := d.putOutcome_lists g o
  rw [Round.closed, h]
  exact ⟨rfl, rfl, rfl, rfl, rfl⟩

theorem Round.OnLast.closed {d : Round} {y : Slot} (h : d.OnLast y) (g : StringId) (o : Outcome) :
    (d.closed g o).OnLast y := by
  obtain ⟨-, hkind, hpart, hfirst, hremaining⟩ := d.closed_keeps g o
  exact ⟨hkind ▸ h.charges, hpart ▸ h.primary, hfirst ▸ hremaining ▸ h.ends⟩

/-- After the last string the round has finished. -/
theorem Engine.advance_last {e : Engine} (p : Profile) (c : CtxId) {d : Round} (h : d.OnLast (e.slot d.slot)) :
    e.advance p c d = e.finish p c d := by
  have hsurvey : d.kind ≠ .survey := by
    obtain hk | hk := h.charges
    · rw [hk]; decide
    · rw [hk]; decide
  have hend : e.endPrimary p c d = e.finish p c d := by
    obtain hf | ⟨-, hw⟩ := h.ends
    · simp [Engine.endPrimary, hf]
    · simp [Engine.endPrimary, hw]
  have hnext : (if d.firstCause.isSome then none else lowestString d.remaining) = none := by
    obtain hf | ⟨hm, -⟩ := h.ends
    · simp [Option.isSome_iff_ne_none, hf]
    · rw [hm]; split <;> rfl
  simp only [Engine.advance, if_neg hsurvey, h.primary, Bool.false_eq_true, if_false, hnext, hend]

/-- What is left of `e` once the last string `g` of the order in context `c` has closed with `o`, and the order is
settled. -/
structure Engine.Closed (e : Engine) (p : Profile) (c : CtxId) (d : Round) (g : StringId) (o : Outcome) (f : Engine) :
    Prop where
  charger : f.charger = { enable := false, setpoint := 0, limit := 0 }
  free : f.ctx c = none
  others : ∀ k, k ≠ c → f.ctx k = e.ctx k
  claim : f.claims.charger = none
  owner : f.owner g = none
  request : f.hasRequest c = false
  slot : f.slot d.slot = (e.slot d.slot).settle (d.putOutcome g o) e.clock
  string : f.str g = d.history p o e.clock (e.str g)
  strings : ∀ k, k ≠ g → f.str k = e.str k
  cells : f.cells = e.cells
  raised : e.board.standingDown = false → f.raised = e.raised ++ [.settled]
  agenda : f.agenda = e.agenda
  measured : f.measured = e.measured
  path : e.water.state ≠ .empty → f.water.state ≠ .empty

/-- A string that is not equalised closes: its claim is released, and the round goes on. -/
theorem Engine.closePrimary_released (e : Engine) (p : Profile) (c : CtxId) (d : Round) (g : StringId) {o : Outcome}
    (ws : List Work) (ho : o.isEqEnd = false) : (e.hand ws).closePrimary p c d g o
      = (((e.putStr g (d.history p o e.clock (e.str g))).putRound c (d.closed g o)).releaseString g).hand
          (.advance c d.slot :: .scan :: ws) := by
  have hkeep : ¬ keepsClaim ((e.hand ws).slot d.slot) o = true := by simp [keepsClaim, ho]
  simp only [Engine.closePrimary, if_neg hkeep, Engine.primaryHistory_eq]
  rfl

/-- The last string closes: with no order waiting, its order settles and nothing else follows. -/
theorem Engine.leads_closeLast {e : Engine} (p : Profile) {c : CtxId} {d : Round} (g : StringId) {o : Outcome}
    (ws : List Work) (hq : e.board.queue = []) (hc : e.claims.charger = some c) (ho : o.isEqEnd = false)
    (hlast : d.OnLast (e.slot d.slot)) :
    ∃ f, ((e.hand ws).closePrimary p c d g o).Leads p 3 (f.hand ws) ∧ e.Closed p c d g o f := by
  let x := ((e.putStr g (d.history p o e.clock (e.str g))).putRound c (d.closed g o)).releaseString g
  obtain ⟨hslot, -, -, -, -⟩ := d.closed_keeps g o
  obtain ⟨w, b, evs, hfinish, hevs, hpath⟩ :=
    Engine.finish_holder (e := x.hand (.scan :: ws)) p (d.closed g o) hc
  let f : Engine := { x with
    board := { (x.putSlot (d.closed g o).slot ((x.slot (d.closed g o).slot).settle (d.closed g o) e.clock)).board with
      standingDown := b },
    ctxs := x.ctxs.set c none, claims := x.claims.dropCtx c, line := (x.withdrawSweep c).line,
    charger := { enable := false, setpoint := 0, limit := 0 }, water := w, raised := x.raised ++ .settled :: evs }
  have hround : x.ctx c = some (d.closed g o) := Engine.ctx_putRound_same _ c _
  have hadvance : (x.hand (.scan :: ws)).work p (.advance c d.slot) = f.hand (.scan :: .scan :: ws) := by
    have hwork : (x.hand (.scan :: ws)).work p (.advance c d.slot) = (x.hand (.scan :: ws)).advance p c (d.closed g o) := by
      simp only [Engine.work, Engine.withRound, Engine.hand_ctx, hround, hslot, if_true]
    have hends : (d.closed g o).OnLast ((x.hand (.scan :: ws)).slot (d.closed g o).slot) := by
      rw [hslot]; exact hlast.closed g o
    exact hwork.trans ((Engine.advance_last p c hends).trans hfinish)
  refine ⟨f, ?_, ?_⟩
  · rw [e.closePrimary_released p c d g ws ho]
    exact .step hadvance ((Engine.leads_scan_empty (e := f) p (.scan :: ws) hq).trans (Engine.leads_scan_empty (e := f) p ws hq))
  · exact {
      charger := rfl
      free := get_set_same _ _ _
      others := fun k hk => (get_set_other _ _ hk).trans (get_set_other _ _ hk)
      claim := if_pos hc
      owner := by
        show ((x.claims.strings).map _).get g = none
        rw [get_map, show x.claims.strings.get g = none from get_set_same _ _ _]
        rfl
      request := x.hasRequest_withdrawSweep c
      slot := by
        have hsame := Engine.slot_putSlot_same x (d.closed g o).slot ((x.slot (d.closed g o).slot).settle (d.closed g o) e.clock)
        rw [hslot] at hsame
        show (x.putSlot (d.closed g o).slot _).slot d.slot = _
        rw [hslot]
        exact hsame
      string := Engine.str_putStr_same _ _ _
      strings := fun k hk => Engine.str_putStr_other _ _ hk
      cells := rfl
      raised := fun hno => congrArg (fun l => e.raised ++ Event.settled :: l) (hevs hno)
      agenda := rfl
      measured := rfl
      path := hpath }

end Sys2Proof.Machine
end

section
/-! SUPPORT. A string is stranded again (R107, R129, R138, R139), and a RETURN that gives its string up. -/

namespace Sys2Proof.Machine

/-- The record of a string that is stranded (R107). -/
def StringRec.strandedAgain (x : StringRec) : StringRec :=
  { x with stranded := true, flags := x.flags ||| sfStranded, inRound := false }

theorem Engine.strand_open {e : Engine} {g : StringId} (h : (e.str g).sel = .atOpen) :
    e.strand g = { e.putStr g (e.str g).strandedAgain with raised := e.raised ++ [.stranded] } := if_pos h

/-- The blocks once a RETURN has given up the string `g`: the charger disabled, the string stranded (R139). -/
def Engine.givenUp (e : Engine) (g : StringId) : Engine :=
  { e.putStr g (e.str g).strandedAgain with
    charger := { enable := false, setpoint := 0, limit := 0 }, raised := e.raised ++ [.stranded] }

/-- The last string of an order closes STRANDED at OPEN, and the order settles. -/
theorem Engine.leads_closeStranded {e : Engine} (p : Profile) {c : CtxId} {d : Round} {g : StringId} (ws : List Work)
    (hg : d.cur = some g) (hsel : (e.str g).sel = .atOpen) (hq : e.board.queue = []) (hc : e.claims.charger = some c)
    (hlast : d.OnLast (e.slot d.slot)) :
    ∃ f, ((e.hand ws).closeStranded p c d).Leads p 3 (f.hand ws) ∧ (e.strand g).Closed p c d g .stranded f := by
  have hclose : (e.hand ws).closeStranded p c d = ((e.strand g).hand ws).closePrimary p c d g .stranded := by
    simp only [Engine.closeStranded, hg]
    rw [Engine.strand_open hsel, Engine.strand_open (e := e.hand ws) hsel]
    rfl
  rw [hclose, Engine.strand_open hsel]
  exact Engine.leads_closeLast p g ws hq hc rfl hlast

/-- A RETURN gives up the last string of its order: the charger is disabled first (R139). -/
theorem Engine.leads_giveUpReturn {e : Engine} (p : Profile) {c : CtxId} {d : Round} {g : StringId} (ws : List Work)
    (hg : d.cur = some g) (hsel : (e.str g).sel = .atOpen) (hq : e.board.queue = []) (hc : e.claims.charger = some c)
    (hlast : d.OnLast (e.slot d.slot)) :
    ∃ f, ((e.hand ws).giveUpReturn p c d).Leads p 3 (f.hand ws) ∧ (e.givenUp g).Closed p c d g .stranded f := by
  let off : Engine := { e with charger := { enable := false, setpoint := 0, limit := 0 } }
  have hoff : (e.hand ws).chargerDisable c = off.hand ws := Engine.chargerDisable_holder hc
  have hstrand : off.strand g = e.givenUp g := Engine.strand_open (e := off) hsel
  rw [Engine.giveUpReturn, hoff, ← hstrand]
  exact Engine.leads_closeStranded p ws hg hsel hq hc hlast

/-- A slot that holds a RETURN has no watering to follow. -/
theorem thenWater_giveBack {y : Slot} (h : orderCode y = 4) : thenWater y = false := by
  simp [thenWater, orderKind_giveBack.mpr h]

/-- The record of a RETURN's string that closes STRANDED (R107, R140). -/
theorem Round.history_stranded {d : Round} (p : Profile) (now : Clock) (x : StringRec) (hk : d.kind = .giveBack) :
    d.history p .stranded now x.strandedAgain = { x with
      stranded := true, flags := x.flags ||| 0x02, inRound := false,
      lastEqTime := if d.leftLoad then now else x.lastEqTime,
      lastEqOutcome := if d.leftLoad then some .stranded else x.lastEqOutcome } := by
  cases h : d.leftLoad <;> simp only [Round.history, h, hk, if_true, Bool.false_eq_true, if_false] <;> rfl

/-- The outcome of the closed string, in an order's list of its primary part. -/
theorem Round.primary_putOutcome {d : Round} (g : StringId) (o : Outcome) (h : d.inWatering = false) :
    (d.putOutcome g o).primary = d.primary.set g o := by
  simp [Round.putOutcome, h]

/-- Settles O52: the expiry gives the string up, and with it the order settles. -/
theorem returnGivesUpItsString : Obligations.ReturnGivesUpItsString := by
  unfold Obligations.ReturnGivesUpItsString
  intro s c r g hs ⟨hround, hcur, hcharger, _, _⟩ hp hkind hcode hsel hm hpart hleft hq hdue
  have hlast : r.OnLast (s.eng.slot r.slot) := ⟨.inr hkind, hpart, .inr ⟨hm, thenWater_giveBack hcode⟩⟩
  have hexpiry : s.eng.prechargeTimeout s.profile true c = s.eng.giveUpReturn s.profile c r := by
    refine (Engine.phaseTimer_reached (deadline := fun r => after r.phaseStart (fieldNat s.profile fldPrecharge)) true _
      hround hp hdue).trans ?_
    exact if_pos hkind
  obtain ⟨f, hleads, hf⟩ := Engine.leads_giveUpReturn s.profile [] hcur hsel hq hcharger hlast
  have hact := State.act_leads (s := s) (f := fun e => e.prechargeTimeout s.profile true c) (e := f)
    (by rw [hexpiry]; exact hleads) (by decide) (hf.agenda.trans hs.2.1)
  refine ⟨_, congrArg Host.Outcome.next ((State.whenAwake_attending s _ hs).trans hact), hf.charger, hf.free, hf.claim,
    hf.owner, ?_, fun k hk => ?_, congrArg Slot.mark hf.slot, ?_, congrArg (fun y => y.result.settled) hf.slot, hf.cells,
    fun hno => ?_⟩
  · have hrecord : (s.eng.givenUp g).str g = (s.eng.str g).strandedAgain := Engine.str_putStr_same _ _ _
    refine hf.string.trans ?_
    rw [hrecord, Round.history_stranded _ _ _ hkind, hleft]
    rfl
  · exact (hf.strings k hk).trans (Engine.str_putStr_other _ _ hk)
  · refine (congrArg (fun y => y.result.primary.get g) hf.slot).trans ?_
    show (r.putOutcome g .stranded).primary.get g = .stranded
    rw [Round.primary_putOutcome g .stranded hpart, get_set_same]
  · have hraised : f.raised = s.eng.raised ++ [.stranded] ++ [.settled] := hf.raised hno
    rw [hs.2.2] at hraised
    exact congrArg (fun evs => List.foldl Alert.capture s.alert evs) hraised

end Sys2Proof.Machine
end

section
/-! SUPPORT. The selector timers (R103, R104, R114): a string that is faulted, for its holder and for nobody. -/

namespace Sys2Proof.Machine

/-! ## A string enters FAULTED (R104) -/

/-- A string that was not AT_LOAD is faulted: no reserve is lost, and its holder is to be told. -/
theorem Engine.faultString_away {e : Engine} (p : Profile) {g : StringId} (h : (e.str g).sel ≠ .atLoad) :
    e.faultString p g
      = ({ e.putStr g (e.str g).fault with raised := e.raised ++ [.selectorFault] } : Engine).hand (e.noticeFor g) := by
  have hsel : ((e.str g).sel == .atLoad) = false := beq_eq_false_iff_ne.mpr h
  simp only [Engine.faultString, hsel, Bool.and_false, Bool.false_and, Bool.false_eq_true, if_false, List.nil_append]
  rfl

/-- With no context busy, a string is faulted and nobody is told. -/
theorem Engine.faultString_idle {e : Engine} (p : Profile) (g : StringId) (h : ∀ c, e.ctx c = none) :
    e.faultString p g = { e.putStr g (e.str g).fault with raised := e.raised ++ [.selectorFault] } := by
  let faulted : Engine := { e.putStr g (e.str g).fault with raised := e.raised ++ [.selectorFault] }
  have hcause (f : Round → Bool) (x : Cause) : faulted.causeTo f x = [] := by
    refine List.filterMap_eq_nil_iff.mpr fun c _ => ?_
    rw [show faulted.ctx c = none from h c]
  have hnotice : faulted.noticeFor g = [] := by
    unfold Engine.noticeFor
    split
    · rename_i c _
      rw [show faulted.ctx c = none from h c]
    · rfl
  have hfault : e.faultString p g = faulted.hand ((if (isFitted p g && (e.str g).sel == .atLoad)
        && decide (faulted.connected p < fieldNat p fldReserve) then
      faulted.causeTo (fun r => r.phase.takesReserveLost && r.cur.isSome) .reserveLost else []) ++ faulted.noticeFor g) :=
    rfl
  rw [hfault, hcause, hnotice, ite_self]
  rfl

/-! ## The transfer timer (R103) -/

/-- The phases in which a context waits for a transfer of its string. -/
def Phase.transfers (ph : Phase) : Prop := ph = .isolating ∨ ph = .connecting ∨ ph = .returning

/-- The blocks once the context `c` has taken the fault of its string `g`: its sweep request withdrawn, the charger
disabled (R131). -/
def Engine.thrown (e : Engine) (c : CtxId) (g : StringId) : Engine :=
  { (e.putStr g (e.str g).fault).withdrawSweep c with
    charger := { enable := false, setpoint := 0, limit := 0 }, raised := e.raised ++ [.selectorFault] }

/-- The fault of the last string of an order reaches its context in a transfer: the order settles. -/
theorem Engine.leads_faultString {e : Engine} (p : Profile) {c : CtxId} {d : Round} {g : StringId}
    (hround : e.ctx c = some d) (hg : d.cur = some g) (hc : e.claims.charger = some c) (ho : e.owner g = some c)
    (hsel : (e.str g).sel ≠ .atLoad) (hp : d.phase.transfers) (hq : e.board.queue = [])
    (hlast : d.OnLast (e.slot d.slot)) :
    ∃ f, (e.faultString p g).Leads p 4 f ∧ (e.thrown c g).Closed p c d g .selectorFault f := by
  let faulted : Engine := { e.putStr g (e.str g).fault with raised := e.raised ++ [.selectorFault] }
  have hnotice : e.noticeFor g = [.faultNotice c d.slot g] := by simp only [Engine.noticeFor, ho, hround]
  have hthrown : (faulted.withdrawSweep c).chargerDisable c = e.thrown c g :=
    Engine.chargerDisable_holder (e := faulted.withdrawSweep c) hc
  have hwork : faulted.work p (.faultNotice c d.slot g) = (e.thrown c g).closePrimary p c d g .selectorFault := by
    have hround' : faulted.ctx c = some d := hround
    have hclose : faulted.closeFaulted p c d = (e.thrown c g).closePrimary p c d g .selectorFault := by
      simp only [Engine.closeFaulted, hthrown, Engine.closeCurrent, hg]
    simp only [Engine.work, Engine.withRound, hround', hg, if_true, Engine.faultNotice]
    obtain hp | hp | hp := hp
    · rw [hp]; exact hclose
    · rw [hp]; exact hclose
    · rw [hp]; exact hclose
  obtain ⟨f, hleads, hf⟩ := Engine.leads_closeLast (e := e.thrown c g) p g (o := .selectorFault) [] hq hc rfl hlast
  refine ⟨f, ?_, hf⟩
  rw [Engine.faultString_away p hsel, hnotice]
  exact .step hwork hleads

/-- What a string that closes keeps of its selector, and what it records if it has left LOAD (R132, R140). -/
theorem Round.history_selector (d : Round) (p : Profile) (o : Outcome) (now : Clock) (x : StringRec) :
    let y := d.history p o now x
    y.sel = x.sel ∧ y.commanded = x.commanded ∧ y.stranded = x.stranded ∧ y.timer = x.timer ∧ y.origin = x.origin
      ∧ y.flags = x.flags ∧ (d.leftLoad = true → y.lastEqOutcome = some o ∧ y.lastEqTime = now ∧ y.inRound = false) := by
  cases h : d.leftLoad
  · simp [Round.history, h]
  · by_cases hk : d.kind = .giveBack <;> simp [Round.history, h, hk, StringRec.returned, StringRec.equalised]

/-! ## The settling reading (R114) -/

/-- A fitted string that is AT_LOAD and not observed there. -/
abbrev StringRec.strayed (x : StringRec) (p : Profile) (g : StringId) : Prop :=
  isFitted p g = true ∧ x.sel = .atLoad ∧ x.observed ≠ .load

/-- The settling reading of some strings with no context busy: those that have strayed are faulted. -/
theorem Engine.foldl_settleString (p : Profile) {l : List StringId} (hl : l.Nodup) (e : Engine)
    (h : ∀ c, e.ctx c = none) : ∃ strings evs,
      l.foldl (fun e g => e.settleString p g) e = { e with strings := strings, raised := evs }
      ∧ ∀ k, strings.get k = if k ∈ l ∧ (e.str k).strayed p k then (e.str k).fault else e.str k := by
  induction l generalizing e with
  | nil => exact ⟨e.strings, e.raised, rfl, fun k => by simp [Engine.str]⟩
  | cons g l ih =>
    obtain ⟨hg, hl⟩ := List.nodup_cons.mp hl
    have hone : ∃ evs, e.settleString p g
        = { e.putStr g (if (e.str g).strayed p g then (e.str g).fault else e.str g) with raised := evs } := by
      by_cases hs : (e.str g).strayed p g
      · exact ⟨_, (if_pos hs).trans (by rw [Engine.faultString_idle p g h, if_pos hs])⟩
      · exact ⟨e.raised, (if_neg hs).trans (by rw [if_neg hs, e.putStr_str])⟩
    obtain ⟨evs, hone⟩ := hone
    obtain ⟨strings, evs', hrest, hget⟩ := ih hl (e.settleString p g) (by rw [hone]; exact h)
    refine ⟨strings, evs', hrest.trans (by rw [hone]; rfl), fun k => ?_⟩
    rw [hget k, hone]
    by_cases hk : k = g
    · subst hk
      simp only [hg, false_and, if_false, List.mem_cons, true_or, true_and]
      exact e.str_putStr_same k _
    · have hstr : ({ e.putStr g (if (e.str g).strayed p g then (e.str g).fault else e.str g) with raised := evs } :
          Engine).str k = e.str k := e.str_putStr_other _ hk
      simp only [List.mem_cons, hk, false_or, hstr]

/-- A part that is not held in reset does what its blocks do. -/
theorem State.whenFree_free {s : State} (f : Engine → Engine) (hs : s.held = none) : s.whenFree f = s.act f := by
  simp [State.whenFree, hs]

/-- A part that is not held in reset and does nothing is as it was. -/
theorem State.whenFree_unchanged {s : State} {f : Engine → Engine} (hs : s.held = none) (hc : s.calm)
    (hf : f s.eng = s.eng) : s.whenFree f = s := by
  rw [State.whenFree_free f hs, State.act_plain s f (by rw [hf]; exact hc.1) (by rw [hf]; exact hc.2), hf]

/-- A transfer timer that runs faults its string. -/
theorem Engine.transferTimeout_running {e : Engine} (p : Profile) {g : StringId} (h : (e.str g).timer ≠ none) :
    e.transferTimeout p g = e.faultString p g :=
  if_pos (Option.isSome_iff_ne_none.mpr h)

/-- Settles O41: the fault with its holder, the fault of a string that nobody owns, and the settling reading. -/
theorem selectorTimersThrowTheString : Obligations.SelectorTimersThrowTheString := by
  unfold Obligations.SelectorTimersThrowTheString
  intro s hs hcalm
  refine ⟨fun c r g ⟨hround, hcur, hcharger, howner, _⟩ htimer hsel hp hkind hpart hm hwater hq => ?_,
    fun g => ⟨fun htimer hsel hfree => ?_, fun htimer => ?_⟩, fun hnone => ?_, fun hsome hidle => ?_⟩
  · have haway : (s.eng.str g).sel ≠ .atLoad := by
      obtain h | h | h := hsel
      · rw [h]; decide
      · rw [h]; decide
      · rw [h]; decide
    obtain ⟨f, hleads, hf⟩ := Engine.leads_faultString s.profile hround hcur hcharger howner haway hp hq
      ⟨hkind, hpart, .inr ⟨hm, hwater⟩⟩
    have hact := State.act_leads (s := s) (f := fun e => e.transferTimeout s.profile g) (e := f)
      (by rw [Engine.transferTimeout_running s.profile htimer]; exact hleads) (by decide) (hf.agenda.trans hcalm.1)
    have hfault : (s.eng.thrown c g).str g = (s.eng.str g).fault := Engine.str_putStr_same _ _ _
    obtain ⟨hsel', hcommanded, hstranded, htimer', horigin, hflags, hhistory⟩ :=
      r.history_selector s.profile .selectorFault s.eng.clock (s.eng.str g).fault
    have hstring : f.str g = r.history s.profile .selectorFault s.eng.clock (s.eng.str g).fault := hfault ▸ hf.string
    rw [← hstring] at hsel' hcommanded hstranded htimer' horigin hflags hhistory
    refine ⟨_, congrArg Host.Outcome.next ((State.whenFree_free _ hs).trans hact), hsel', hcommanded, hstranded, htimer',
      horigin, hflags, hhistory, fun k hk => (hf.strings k hk).trans (Engine.str_putStr_other _ _ hk), hf.charger,
      hf.request, congrArg Slot.mark hf.slot, ?_, congrArg (fun y => y.result.settled) hf.slot, hf.free, hf.claim,
      hf.owner, hf.others, hf.cells, fun hno => ?_⟩
    · refine (congrArg (fun y => y.result.primary.get g) hf.slot).trans ?_
      show (r.putOutcome g .selectorFault).primary.get g = .selectorFault
      rw [Round.primary_putOutcome g .selectorFault hpart, get_set_same]
    · have hraised : f.raised = s.eng.raised ++ [.selectorFault] ++ [.settled] := hf.raised hno
      rw [hcalm.2] at hraised
      exact congrArg (fun evs => List.foldl Alert.capture s.alert evs) hraised
  · have hnotice : s.eng.noticeFor g = [] := by simp only [Engine.noticeFor, hfree]
    have hfault : s.eng.transferTimeout s.profile g
        = { s.eng.putStr g (s.eng.str g).fault with raised := s.eng.raised ++ [.selectorFault] } := by
      rw [Engine.transferTimeout_running s.profile htimer, Engine.faultString_away s.profile hsel, hnotice]
      rfl
    have hact := State.act_leads_raised (s := s) (f := fun e => e.transferTimeout s.profile g)
      (e := s.eng.putStr g (s.eng.str g).fault) (by rw [hfault]; exact .refl _ _) (by decide) hcalm.1 hcalm.2
    rw [hcalm.2] at hact
    exact congrArg Host.Outcome.next ((State.whenFree_free _ hs).trans hact)
  · exact congrArg Host.Outcome.next (State.whenFree_unchanged hs hcalm (by simp [Engine.transferTimeout, htimer]))
  · exact congrArg Host.Outcome.next (State.whenFree_unchanged hs hcalm (by simp [Engine.settlingReading, hnone]))
  · obtain ⟨strings, evs, hfold, hget⟩ := Engine.foldl_settleString s.profile (l := allStrings) (by decide)
      { s.eng with settling := none } hidle
    have hreading : s.eng.settlingReading s.profile
        = { s.eng with settling := none, strings := strings, raised := evs } :=
      (if_pos (Option.isSome_iff_ne_none.mpr hsome)).trans hfold
    have hact := State.act_leads_raised (s := s) (f := fun e => e.settlingReading s.profile)
      (e := { s.eng with settling := none, strings := strings }) (by rw [hreading]; exact .refl _ _) (by decide) hcalm.1
      hcalm.2
    refine ⟨_, congrArg Host.Outcome.next ((State.whenFree_free _ hs).trans hact), rfl, rfl, rfl, rfl, rfl, rfl, rfl,
      fun g => ?_⟩
    refine (hget g).trans ?_
    simp only [mem_allStrings, true_and]
    rfl

end Sys2Proof.Machine
end

section
/-! SUPPORT. A sample with CHG_FAULT set, as the one busy context takes it: what the charger port hands the context, then
what the context does with the sample (R84, R87, R116; log 10). -/

namespace Sys2Proof.Machine

/-! ## A string is brought to rest, by its phase (R35, R133, R139) -/

section
variable {e : Engine} {p : Profile} {c : CtxId} {d : Round} {x : Cause}

theorem Engine.bringToRest_isolating (h : d.phase = .isolating) :
    e.bringToRest p c d x = e.putRound c { d with pendingOutcome := some .siteAbort } := by
  simp only [Engine.bringToRest, h]

theorem Engine.bringToRest_connecting (h : d.phase = .connecting) : e.bringToRest p c d x =
    e.putRound c (if d.kind = .giveBack then d else { d with pendingOutcome := some .siteAbort }) := by
  by_cases hk : d.kind = .giveBack <;> simp [Engine.bringToRest, h, hk]

theorem Engine.bringToRest_precharge (h : d.phase = .precharge) : e.bringToRest p c d x =
    if d.kind = .giveBack then e.giveUpReturn p c d
    else e.returnFromOpen p c { d with pendingOutcome := some .siteAbort } := by
  simp only [Engine.bringToRest, h]

theorem Engine.bringToRest_charging (h : d.phase = .ramp ∨ d.phase = .hold) :
    e.bringToRest p c d x = e.endIntoMatch c d .siteAbort := by
  obtain h | h := h
  · simp only [Engine.bringToRest, h]
  · simp only [Engine.bringToRest, h]

theorem Engine.bringToRest_sweeping (h : d.phase = .sweeping) (hk : d.kind = .giveBack) :
    e.bringToRest p c d x = (e.withdrawSweep c).closeStranded p c d := by
  simp only [Engine.bringToRest, h, hk, if_true]

theorem Engine.bringToRest_check (h : d.phase = .check) :
    e.bringToRest p c d x = (e.withdrawSweep c).closeCurrent p c d .siteAbort := by
  simp only [Engine.bringToRest, h]

end

/-! ## The contexts, one of which may hand over work (R84) -/

/-- Context `c` comes to this with the sample, and the others do nothing. -/
theorem Engine.leads_ctxs_then (e : Engine) (p : Profile) {P : Engine → Prop} {n : Nat} (prev : Lines) (ws : List Work)
    {c : CtxId} (hbefore : ∀ k, k ≠ c → e.ctx k = none) (hafter : ∀ f, P f → ∀ k, k ≠ c → f.ctx k = none)
    (hc : ∀ vs, ∃ f, ((e.hand vs).ctxArrival p c).Leads p n (f.hand vs) ∧ P f) :
    ∃ f, (e.hand (ctxArrivals prev allCtxs ++ ws)).Leads p (n + 4) (f.hand ws) ∧ P f := by
  obtain ⟨hsplit, hfirst, hlast⟩ := allCtxs_split c
  have hlist : ctxArrivals prev allCtxs ++ ws
      = ctxArrivals prev (allCtxs.take c.val) ++ (.arrival (.context c) prev
          :: (ctxArrivals prev (allCtxs.drop (c.val + 1)) ++ ws)) := by
    conv_lhs => rw [hsplit]
    simp [ctxArrivals]
  have hlen : (allCtxs.take c.val).length + ((allCtxs.drop (c.val + 1)).length + 1) = 4 := by
    have := congrArg List.length hsplit
    simp only [List.length_append, List.length_cons] at this
    exact this.symm
  obtain ⟨f, hf, hP⟩ := hc (ctxArrivals prev (allCtxs.drop (c.val + 1)) ++ ws)
  have hquiet := e.leads_ctxs_quiet p prev (.arrival (.context c) prev :: (ctxArrivals prev (allCtxs.drop (c.val + 1)) ++ ws))
    (allCtxs.take c.val) fun k hk vs => Engine.ctxArrival_idle p (hbefore k (hfirst k hk))
  have hrest := f.leads_ctxs_quiet p prev ws (allCtxs.drop (c.val + 1)) fun k hk vs =>
    Engine.ctxArrival_idle p (hafter f hP k (hlast k hk))
  have harrival : (e.hand (.arrival (.context c) prev :: (ctxArrivals prev (allCtxs.drop (c.val + 1)) ++ ws))).Leads p (n + 1)
      (f.hand (ctxArrivals prev (allCtxs.drop (c.val + 1)) ++ ws)) := .step rfl hf
  rw [hlist]
  exact ⟨f, (hquiet.trans (harrival.trans hrest)).mono (by omega), hP⟩

/-! ## The sample (R87) -/

/-- Context `c` alone is busy, driving the string `g`, no order waits, and a sample arrives with CHG_FAULT set and no
change of the reservoir. -/
structure State.FaultStands (s : State) (r : Readings) (c : CtxId) (d : Round) (g : StringId) : Prop where
  attends : s.attending
  owed : s.eng.qualifierOwed = none
  queue : s.eng.board.queue = []
  round : s.eng.ctx c = some d
  cur : d.cur = some g
  charger : s.eng.claims.charger = some c
  owner : s.eng.owner g = some c
  fitted : isFitted s.profile g = true
  only : s.onlyBusy c
  set : r.chgFault = true
  low : r.resLow = (latestLines s.eng.latest).resLow
  notEmpty : r.resEmpty = false
  path : s.eng.water.state ≠ .empty

/-- The arrivals of a sample behind the charger port's. -/
def laterArrivals (prev : Lines) : List Work :=
  .arrival .water prev :: (ctxArrivals prev allCtxs ++ [.arrival .board prev])

/-- The blocks hold the sample that has arrived, and no context but `c` is busy. -/
structure State.HoldsSample (s : State) (r : Readings) (c : CtxId) (e : Engine) : Prop where
  measured : e.measured = (s.eng.sampled s.profile r).measured
  others : ∀ k, k ≠ c → e.ctx k = none

section
variable {s : State} {r : Readings} {c : CtxId} {d : Round} {g : StringId}

/-- Where the charger port's arrival leads to `e`, and what the context then does with the sample to one of `P`. -/
theorem State.FaultStands.leads (h : s.FaultStands r c d g) {e : Engine} {P : Engine → Prop} {m n : Nat}
    (hcharger : ((s.eng.sampled s.profile r).hand (arrivals (latestLines s.eng.latest))).Leads s.profile m
      (e.hand (laterArrivals (latestLines s.eng.latest))))
    (he : s.HoldsSample r c e) (hpath : e.water.state ≠ .empty) (hP : ∀ f, P f → s.HoldsSample r c f ∧ f.agenda = [])
    (hc : ∀ vs, ∃ f, ((e.hand vs).ctxArrival s.profile c).Leads s.profile n (f.hand vs) ∧ P f) (hk : m + n ≤ 900) :
    ∃ f, P f ∧ exec (.sample r []) s
      = .next { s with eng := { f with raised := [] }, alert := f.raised.foldl Alert.capture s.alert } := by
  let was := latestLines s.eng.latest
  have hlines (x : Engine) (hx : s.HoldsSample r c x) : latestLines x.latest = linesOf r :=
    congrArg (fun y : Clock × Option Sample => latestLines y.2) hx.measured
  have hlow : (latestLines e.latest).resLow = was.resLow := by rw [hlines e he]; exact h.low
  have hempty : (latestLines e.latest).resEmpty = false := by rw [hlines e he]; exact h.notEmpty
  have hwater := e.leads_water_quiet s.profile (ctxArrivals was allCtxs ++ [.arrival .board was]) hlow hempty hpath
  obtain ⟨f, hctxs, hf⟩ := e.leads_ctxs_then s.profile was [.arrival .board was] he.others
    (fun f hf => (hP f hf).1.others) hc
  have hboard := f.leads_board_quiet (prev := was) s.profile [] fun _ => by rw [hlines f (hP f hf).1]; exact h.set
  exact ⟨f, hf, exec_sample_leads h.attends h.owed (hcharger.trans (hwater.trans (hctxs.trans hboard))) (by omega)
    (hP f hf).2⟩

/-- A rise hands the cause to the context; what that leads to comes before the other arrivals. -/
theorem State.FaultStands.leads_cause (h : s.FaultStands r c d g) (hrise : (latestLines s.eng.latest).chgFault = false)
    {e : Engine} {n : Nat}
    (hcause : (((s.eng.sampled s.profile r).hand (laterArrivals (latestLines s.eng.latest))).takeCause s.profile c d
      .chargerFault).Leads s.profile n (e.hand (laterArrivals (latestLines s.eng.latest)))) :
    ((s.eng.sampled s.profile r).hand (arrivals (latestLines s.eng.latest))).Leads s.profile (1 + (n + 1))
      (e.hand (laterArrivals (latestLines s.eng.latest))) := by
  have hport := (s.eng.sampled s.profile r).leads_charger_rise s.profile
    (laterArrivals (latestLines s.eng.latest)) h.set hrise
  rw [show (s.eng.sampled s.profile r).claims.charger = some c from h.charger,
    Engine.causeToHolder_busy (e := s.eng.sampled s.profile r) h.round] at hport
  exact hport.trans (.step (Engine.work_cause s.profile .chargerFault h.round) hcause)

/-- A rise that the context takes to `e`, and the sample that it then takes to `f`, with nothing handed over. -/
theorem State.FaultStands.leaves (h : s.FaultStands r c d g) (hrise : (latestLines s.eng.latest).chgFault = false)
    {e f : Engine}
    (hcause : ∀ vs, ((s.eng.sampled s.profile r).hand vs).takeCause s.profile c d .chargerFault = e.hand vs)
    (hc : ∀ vs, (e.hand vs).ctxArrival s.profile c = f.hand vs) (hpath : e.water.state ≠ .empty)
    (he : ∀ k, k ≠ c → e.ctx k = none) (hf : ∀ k, k ≠ c → f.ctx k = none) (ha : f.agenda = []) (hr : f.raised = []) :
    exec (.sample r []) s = .next { s with eng := f } := by
  have hheld : e.measured = (s.eng.sampled s.profile r).measured :=
    (congrArg Engine.measured (hcause [])).symm.trans (Engine.takeCause_measured _ _ _ _ _)
  have htaken : f.measured = e.measured :=
    (congrArg Engine.measured (hc [])).symm.trans (Engine.ctxArrival_measured _ _ _)
  have hport := h.leads_cause hrise (e := e) (n := 0) (by rw [hcause]; exact .refl _ _)
  obtain ⟨x, hx, hexec⟩ := h.leads (P := (· = f)) (n := 0) hport ⟨hheld, he⟩ hpath
    (fun x hx => hx ▸ ⟨⟨htaken.trans hheld, hf⟩, ha⟩) (fun vs => ⟨f, by rw [hc]; exact .refl _ _, rfl⟩) (by decide)
  rw [hx, hr] at hexec
  have hcalm := congrArg (fun evs => ({ f with raised := evs } : Engine)) hr.symm
  exact hexec.trans (congrArg (fun x => Host.Outcome.next { s with eng := x }) hcalm)

/-- A rise that leaves the context with a round that the sample does not concern. -/
theorem State.FaultStands.leaves_ignored (h : s.FaultStands r c d g)
    (hrise : (latestLines s.eng.latest).chgFault = false) {e : Engine} {d' : Round}
    (hcause : ∀ vs, ((s.eng.sampled s.profile r).hand vs).takeCause s.profile c d .chargerFault = e.hand vs)
    (hround : e.ctx c = some d') (hp : d'.phase.ignoresSamples) (hpath : e.water.state ≠ .empty)
    (he : ∀ k, k ≠ c → e.ctx k = none) (ha : e.agenda = []) (hr : e.raised = []) :
    exec (.sample r []) s = .next { s with eng := e } :=
  h.leaves hrise hcause (fun vs => Engine.ctxArrival_ignored (e := e.hand vs) _ hround hp) hpath he he ha hr

/-- A rise in a phase in which the cause changes the round alone (R35, R36, R133). -/
theorem State.FaultStands.leaves_round (h : s.FaultStands r c d g)
    (hrise : (latestLines s.eng.latest).chgFault = false) {d' : Round}
    (hcause : ∀ vs, ((s.eng.sampled s.profile r).hand vs).takeCause s.profile c d .chargerFault
      = ((s.eng.sampled s.profile r).hand vs).putRound c d') (hp : d'.phase.ignoresSamples) :
    exec (.sample r []) s = .next { s with eng := (s.eng.sampled s.profile r).putRound c d' } :=
  h.leaves_ignored hrise (e := (s.eng.sampled s.profile r).putRound c d') (fun vs => hcause vs)
    (Engine.ctx_putRound_same _ c d') hp h.path
    (fun k hk => (Engine.ctx_putRound_other _ _ hk).trans (h.only k hk)) h.attends.2.1 h.attends.2.2

/-! ## A transfer goes on (R35, R133) -/

theorem ignoresSamples_isolating : Phase.isolating.ignoresSamples := ⟨by decide, by decide, by decide, by decide⟩
theorem ignoresSamples_connecting : Phase.connecting.ignoresSamples := ⟨by decide, by decide, by decide, by decide⟩

/-- The first cause in ISOLATING, and in CONNECTING but for a RETURN: SITE_ABORT is pending. -/
theorem State.FaultStands.pends (h : s.FaultStands r c d g) (hrise : (latestLines s.eng.latest).chgFault = false)
    (hf : d.firstCause = none) (hp : d.phase = .isolating ∨ (d.phase = .connecting ∧ d.kind ≠ .giveBack)) :
    exec (.sample r []) s = .next { s with
      eng := (s.eng.sampled s.profile r).putRound c { d.takeCause .chargerFault with pendingOutcome := some .siteAbort } } := by
  have hphase := d.takeCause_phase .chargerFault
  refine h.leaves_round hrise (fun vs => ?_) ?_
  · rw [Engine.takeCause_first _ _ _ hf]
    obtain hp | ⟨hp, hk⟩ := hp
    · exact Engine.bringToRest_isolating (hphase.trans hp)
    · rw [Engine.bringToRest_connecting (hphase.trans hp), if_neg (by rw [d.takeCause_kind]; exact hk)]
  · show (d.takeCause .chargerFault).phase.ignoresSamples
    obtain hp | ⟨hp, -⟩ := hp
    · rw [hphase, hp]; exact ignoresSamples_isolating
    · rw [hphase, hp]; exact ignoresSamples_connecting

/-- A later cause in ISOLATING or CONNECTING, or the first in a RETURN's CONNECTING, is recorded. -/
theorem State.FaultStands.records (h : s.FaultStands r c d g) (hrise : (latestLines s.eng.latest).chgFault = false)
    (hp : d.phase = .isolating ∨ d.phase = .connecting)
    (hf : d.firstCause ≠ none ∨ (d.phase = .connecting ∧ d.kind = .giveBack)) :
    exec (.sample r []) s = .next { s with
      eng := (s.eng.sampled s.profile r).putRound c (d.takeCause .chargerFault) } := by
  have hphase := d.takeCause_phase .chargerFault
  refine h.leaves_round hrise (fun vs => ?_) ?_
  · by_cases hfirst : d.firstCause = none
    · obtain ⟨hp, hk⟩ := hf.resolve_left fun hne => hne hfirst
      rw [Engine.takeCause_first _ _ _ hfirst, Engine.bringToRest_connecting (hphase.trans hp),
        if_pos ((d.takeCause_kind _).trans hk)]
    · exact Engine.takeCause_later _ _ _ hfirst
  · obtain hp | hp := hp
    · rw [hphase, hp]; exact ignoresSamples_isolating
    · rw [hphase, hp]; exact ignoresSamples_connecting

/-! ## The string returns (R127, R129, R130, R133, R136) -/

theorem Engine.requestTransfer_toLoad {e : Engine} {p : Profile} {c : CtxId} {g : StringId} (ho : e.owner g = some c)
    (hf : isFitted p g = true) (hs : (e.str g).sel = .atOpen) (b : Bool) :
    e.requestTransfer p c g b .load = (.taken, e.beginTransfer p g .goingLoad .load (some .opened)) := by
  simp [Engine.requestTransfer, ho, hf, hs]

/-- The return from OPEN of the charger's holder: the charger is disabled, and OPEN→LOAD begins (R130). -/
theorem Engine.returnFromOpen_taken {e : Engine} {p : Profile} {c : CtxId} {d : Round} {g : StringId}
    (hg : d.cur = some g) (hc : e.claims.charger = some c) (ho : e.owner g = some c) (hf : isFitted p g = true)
    (hs : (e.str g).sel = .atOpen) :
    e.returnFromOpen p c d = { (e.beginTransfer p g .goingLoad .load (some .opened)).putRound c
      (d.enter .returning e.clock) with charger := { enable := false, setpoint := 0, limit := 0 } } := by
  let off : Engine := { e with charger := { enable := false, setpoint := 0, limit := 0 } }
  have hask : off.askTransfer p c (d.enter .returning e.clock) false .load
      = (.taken, off.beginTransfer p g .goingLoad .load (some .opened)) := by
    have hcur : (d.enter .returning e.clock).cur = some g := hg
    simp only [Engine.askTransfer, hcur]
    exact Engine.requestTransfer_toLoad (e := off) ho hf hs false
  rw [Engine.returnFromOpen, Engine.toLoad, show e.chargerDisable c = off from Engine.chargerDisable_holder hc]
  simp only [hask]
  rfl

/-- The first cause in an EQUALISE's PRECHARGE: the string returns from OPEN. -/
theorem State.FaultStands.returnsFromOpen (h : s.FaultStands r c d g)
    (hrise : (latestLines s.eng.latest).chgFault = false) (hf : d.firstCause = none) (hp : d.phase = .precharge)
    (hk : d.kind ≠ .giveBack) (hsel : (s.eng.str g).sel = .atOpen) :
    exec (.sample r []) s = .next { s with
      eng := { ((s.eng.sampled s.profile r).beginTransfer s.profile g .goingLoad .load (some .opened)).putRound c
          { d.takeCause .chargerFault with
            phase := .returning, phaseStart := s.eng.sampleTime, pendingOutcome := some .siteAbort } with
        charger := { enable := false, setpoint := 0, limit := 0 } } } := by
  refine h.leaves_ignored hrise (fun vs => ?_) (get_set_same _ _ _) (returning_ignores rfl) h.path
    (fun k hk => (get_set_other _ _ hk).trans (h.only k hk)) h.attends.2.1 h.attends.2.2
  rw [Engine.takeCause_first _ _ _ hf, Engine.bringToRest_precharge ((d.takeCause_phase _).trans hp),
    if_neg (by rw [d.takeCause_kind]; exact hk)]
  exact Engine.returnFromOpen_taken (e := (s.eng.sampled s.profile r).hand vs)
    (d := { d.takeCause .chargerFault with pendingOutcome := some .siteAbort }) ((d.takeCause_cur _).trans h.cur) h.charger
    h.owner h.fitted hsel

/-- MATCH with CHG_FAULT set: the charger is disabled, and the string returns to be stranded (R127, R129). -/
theorem Engine.ctxArrival_strands {e : Engine} {p : Profile} {c : CtxId} {d : Round} {g : StringId} {x : Sample}
    (hround : e.ctx c = some d) (hx : e.latest = some x) (hp : d.phase = .matching) (hset : x.lines.chgFault = true)
    (hg : d.cur = some g) (hc : e.claims.charger = some c) (ho : e.owner g = some c) (hf : isFitted p g = true)
    (hs : (e.str g).sel = .atEq) :
    e.ctxArrival p c = { (e.beginTransfer p g .goingOpen .opened (some .equalise)).putRound c
      { d.enter .returning e.clock with stranding := true } with
        charger := { enable := false, setpoint := 0, limit := 0 } } := by
  rw [Engine.ctxArrival_matching p hround hx hp, Engine.matchSample, if_pos hset, Engine.strandingReturn,
    Engine.chargerDisable_holder hc]
  exact Engine.enterReturning_taken (e := { e with charger := Charger.blank }) hg ho hf hs true

/-- Of two rounds put into a context, the second stays. -/
theorem Engine.putRound_putRound (e : Engine) (c : CtxId) (a b : Round) : (e.putRound c a).putRound c b = e.putRound c b := by
  have hset : (e.ctxs.set c (some a)).set c (some b) = e.ctxs.set c (some b) := Vector.set_set _ _
  exact congrArg (fun v => ({ e with ctxs := v } : Engine)) hset

/-- A rise in MATCH: the cause is taken, and the set level begins a stranding return. -/
theorem State.FaultStands.strandsFromMatch (h : s.FaultStands r c d g)
    (hrise : (latestLines s.eng.latest).chgFault = false) (hp : d.phase = .matching) (hsel : (s.eng.str g).sel = .atEq) :
    exec (.sample r []) s = .next { s with
      eng := { ((s.eng.sampled s.profile r).beginTransfer s.profile g .goingOpen .opened (some .equalise)).putRound c
          { d.takeCause .chargerFault with phase := .returning, phaseStart := s.eng.sampleTime, stranding := true } with
        charger := { enable := false, setpoint := 0, limit := 0 } } } := by
  let e := (s.eng.sampled s.profile r).putRound c (d.takeCause .chargerFault)
  refine h.leaves hrise (e := e) (fun vs => Engine.takeCause_onWayBack _ _ _ _ (.inl hp)) (fun vs => ?_) h.path
    (fun k hk => (get_set_other _ _ hk).trans (h.only k hk)) (fun k hk => (get_set_other _ _ hk).trans (h.only k hk))
    h.attends.2.1 h.attends.2.2
  refine (Engine.ctxArrival_strands (e := e.hand vs) (get_set_same _ _ _) rfl ((d.takeCause_phase _).trans hp) h.set
    ((d.takeCause_cur _).trans h.cur) h.charger h.owner h.fitted hsel).trans ?_
  exact congrArg
    (fun y : Engine => ({ y with charger := { enable := false, setpoint := 0, limit := 0 } } : Engine).hand vs)
    (Engine.putRound_putRound ((s.eng.sampled s.profile r).beginTransfer s.profile g .goingOpen .opened (some .equalise)) c _
      _)

/-- The first cause in RAMP or HOLD: the work ends into MATCH, and the set level begins a stranding return. -/
theorem State.FaultStands.strandsFromCharge (h : s.FaultStands r c d g)
    (hrise : (latestLines s.eng.latest).chgFault = false) (hf : d.firstCause = none)
    (hp : d.phase = .ramp ∨ d.phase = .hold) (hsel : (s.eng.str g).sel = .atEq) :
    exec (.sample r []) s = .next { s with
      eng := { (((s.eng.sampled s.profile r).withdrawSweep c).beginTransfer s.profile g .goingOpen .opened
          (some .equalise)).putRound c { d.takeCause .chargerFault with
            phase := .returning, phaseStart := s.eng.sampleTime, perCell := 0, holdDue := false, stranding := true,
            pendingOutcome := some .siteAbort } with
        charger := { enable := false, setpoint := 0, limit := 0 } } } := by
  let d' : Round := { d.takeCause .chargerFault with
    phase := .matching, phaseStart := s.eng.sampleTime, perCell := 0, holdDue := false,
    pendingOutcome := some .siteAbort }
  let e : Engine := { ((s.eng.sampled s.profile r).withdrawSweep c).putRound c d' with
    charger := { s.eng.charger with setpoint := (sampleOf s.eng.sampleTime r).loadVolts } }
  refine h.leaves hrise (e := e) (fun vs => ?_) (fun vs => ?_) h.path
    (fun k hk => (get_set_other _ _ hk).trans (h.only k hk)) (fun k hk => (get_set_other _ _ hk).trans (h.only k hk))
    h.attends.2.1 h.attends.2.2
  · have hend : ((s.eng.sampled s.profile r).hand vs).endIntoMatch c (d.takeCause .chargerFault) .siteAbort = e.hand vs :=
      Engine.enterMatch_holder (e := (s.eng.sampled s.profile r).hand vs) (x := sampleOf s.eng.sampleTime r) h.charger rfl
        (sampleOf_loadVolts_le _ _)
    rw [Engine.takeCause_first _ _ _ hf, Engine.bringToRest_charging (by rw [d.takeCause_phase]; exact hp)]
    exact hend
  · refine (Engine.ctxArrival_strands (e := e.hand vs) (d := d') (get_set_same _ _ _) rfl rfl h.set
      ((d.takeCause_cur _).trans h.cur) h.charger h.owner h.fitted hsel).trans ?_
    exact congrArg
      (fun y : Engine => ({ y with charger := { enable := false, setpoint := 0, limit := 0 } } : Engine).hand vs)
      (Engine.putRound_putRound (((s.eng.sampled s.profile r).withdrawSweep c).beginTransfer s.profile g .goingOpen .opened
        (some .equalise)) c _ _)

end

end Sys2Proof.Machine
end

section
/-! SUPPORT. CHG_FAULT closes the string of the one busy context, and with it the order settles (R35, R133, R138, R139);
the statement about causes. -/

namespace Sys2Proof.Machine

/-! ## The round and the blocks as the string closes -/

/-- The round as its string closes on a sample: with the cause taken if CHG_FAULT rises, and with no string remaining. -/
structure Round.EndsAs (d d' : Round) (rises : Prop) : Prop where
  slot : d'.slot = d.slot
  part : d'.inWatering = false
  cause : rises → d'.firstCause = some .chargerFault
  outcomes : ∀ k : StringId, d'.primary.get k =
    if d.remaining.getLsbD k.val = true then .notReached else d.primary.get k

theorem Round.endsAs_takeCause {d : Round} (rises : Prop) (hf : d.firstCause = none) (hpart : d.inWatering = false) :
    d.EndsAs (d.takeCause .chargerFault) rises where
  slot := d.takeCause_slot _
  part := (d.takeCause_inWatering _).trans hpart
  cause := fun _ => Round.takeCause_firstCause _ hf
  outcomes := fun k => by
    have hlist := Round.takeCause_list .chargerFault hf k
    simpa only [hpart, Bool.false_eq_true, false_and, if_false] using hlist

theorem Round.endsAs_self {d : Round} {rises : Prop} (hno : ¬ rises) (hpart : d.inWatering = false)
    (hm : d.remaining = 0) : d.EndsAs d rises where
  slot := rfl
  part := hpart
  cause := fun h => absurd h hno
  outcomes := fun k => by simp [hm]

/-- A cause ends the order: the string in work is its last (R35). -/
theorem Round.onLast_takeCause {d : Round} (y : Slot) (x : Cause) (hk : d.kind = .equalise ∨ d.kind = .giveBack)
    (hf : d.firstCause = none) (hpart : d.inWatering = false) : (d.takeCause x).OnLast y where
  charges := by rw [d.takeCause_kind]; exact hk
  primary := (d.takeCause_inWatering x).trans hpart
  ends := .inl (by rw [Round.takeCause_firstCause x hf]; exact Option.some_ne_none x)

/-- An order that CHG_FAULT has ended settles ABORTED, with the cause (R39, R40). -/
theorem Slot.settle_chargerFault (y : Slot) {d : Round} (now : Clock) (h : d.firstCause = some .chargerFault) :
    (y.settle d now).result.outcome = .aborted ∧ (y.settle d now).result.first = .cause .chargerFault := by
  simp [Slot.settle, roundOutcome, h]

/-- The record of the string `g` that closes on the sample with outcome `o`. -/
def State.closedRecord (s : State) (d : Round) (g : StringId) (o : Outcome) : StringRec :=
  if o = .stranded then
    { s.eng.str g with
      stranded := true, flags := (s.eng.str g).flags ||| 0x02, inRound := false,
      lastEqTime := if d.leftLoad then s.eng.sampleTime else (s.eng.str g).lastEqTime,
      lastEqOutcome := if d.leftLoad then some .stranded else (s.eng.str g).lastEqOutcome }
  else s.eng.str g

/-- The blocks as the string `g` closes with `o` on the sample, its round being `d'` then. -/
structure State.Closing (s : State) (r : Readings) (d d' : Round) (g : StringId) (o : Outcome) (e : Engine) : Prop where
  measured : e.measured = (s.eng.sampled s.profile r).measured
  board : e.board = s.eng.board
  ctxs : e.ctxs = s.eng.ctxs
  water : e.water = s.eng.water
  agenda : e.agenda = []
  raised : e.raised = if o = .stranded then [.stranded] else []
  string : d'.history s.profile o s.eng.sampleTime (e.str g) = s.closedRecord d g o
  strings : ∀ k, k ≠ g → e.str k = s.eng.str k

/-- What a sample leaves that closes the string `g` with `o` and settles the order of context `c`. -/
def State.SampleCloses (s : State) (r : Readings) (c : CtxId) (d : Round) (g : StringId) (o : Outcome) : Prop :=
  ∃ t, exec (.sample r []) s = .next t
    ∧ t.eng.charger = { enable := false, setpoint := 0, limit := 0 } ∧ t.eng.ctx c = none
    ∧ t.eng.claims.charger = none ∧ t.eng.owner g = none ∧ t.eng.hasRequest c = false
    ∧ (t.eng.slot d.slot).mark = .settled ∧ (t.eng.slot d.slot).result.settled = s.eng.sampleTime
    ∧ (t.eng.slot d.slot).result.primary.get g = o
    ∧ (∀ k, k ≠ g → t.eng.str k = s.eng.str k ∧ (t.eng.slot d.slot).result.primary.get k =
        if d.remaining.getLsbD k.val = true then .notReached else d.primary.get k)
    ∧ ((latestLines s.eng.latest).chgFault = false → (t.eng.slot d.slot).result.outcome = .aborted
      ∧ (t.eng.slot d.slot).result.first = .cause .chargerFault)
    ∧ t.eng.str g = s.closedRecord d g o
    ∧ (s.eng.board.standingDown = false →
        t.alert = (if o = .stranded then s.alert.capture .stranded else s.alert).capture .settled)

section
variable {s : State} {r : Readings} {c : CtxId} {d d' : Round} {g : StringId} {o : Outcome} {e : Engine}

/-- The order has settled, and all the arrivals have come. -/
theorem State.sampleCloses_of_closed {f : Engine} (hd : d.EndsAs d' ((latestLines s.eng.latest).chgFault = false))
    (he : s.Closing r d d' g o e) (hf : e.Closed s.profile c d' g o f)
    (hexec : exec (.sample r []) s
      = .next { s with eng := { f with raised := [] }, alert := f.raised.foldl Alert.capture s.alert }) :
    s.SampleCloses r c d g o := by
  have hclock : e.clock = s.eng.sampleTime := congrArg Prod.fst he.measured
  have hslot : f.slot d.slot = (e.slot d.slot).settle (d'.putOutcome g o) s.eng.sampleTime := by
    rw [← hd.slot, ← hclock]
    exact hf.slot
  have hprimary (k : StringId) : (f.slot d.slot).result.primary.get k = (d'.primary.set g o).get k := by
    rw [hslot, ← Round.primary_putOutcome g o hd.part]
    rfl
  have hcause (h : (latestLines s.eng.latest).chgFault = false) :
      (d'.putOutcome g o).firstCause = some .chargerFault := by
    obtain ⟨_, _, hlists⟩ := d'.putOutcome_lists g o
    rw [hlists]
    exact hd.cause h
  refine ⟨_, hexec, hf.charger, hf.free, hf.claim, hf.owner, hf.request, congrArg Slot.mark hslot,
    congrArg (fun y => y.result.settled) hslot, (hprimary g).trans (get_set_same _ _ _), fun k hk => ⟨?_, ?_⟩, fun h => ?_,
    ?_, fun hno => ?_⟩
  · exact (hf.strings k hk).trans (he.strings k hk)
  · exact (hprimary k).trans ((get_set_other _ _ hk).trans (hd.outcomes k))
  · have haborted := (e.slot d.slot).settle_chargerFault s.eng.sampleTime (hcause h)
    rw [← hslot] at haborted
    exact haborted
  · refine hf.string.trans ?_
    rw [hclock]
    exact he.string
  · have hraised : f.raised = (if o = .stranded then [.stranded] else []) ++ [.settled] := by
      rw [hf.raised (by rw [he.board]; exact hno), he.raised]
    refine (congrArg (fun evs => List.foldl Alert.capture s.alert evs) hraised).trans ?_
    split <;> rfl

/-- The blocks hold the sample once the order has settled, and no context is busy. -/
theorem State.Closing.holds {f : Engine} (he : s.Closing r d d' g o e) (hf : e.Closed s.profile c d' g o f)
    (h : s.onlyBusy c) : s.HoldsSample r c f where
  measured := hf.measured.trans he.measured
  others := fun k hk => (hf.others k hk).trans ((congrArg (fun v => v.get k) he.ctxs).trans (h k hk))

/-- A rise that closes the string. -/
theorem State.FaultStands.closes_of_cause (h : s.FaultStands r c d g)
    (hrise : (latestLines s.eng.latest).chgFault = false)
    (hd : d.EndsAs d' ((latestLines s.eng.latest).chgFault = false)) (he : s.Closing r d d' g o e)
    (hends : ∀ vs, ∃ f, (((s.eng.sampled s.profile r).hand vs).takeCause s.profile c d .chargerFault).Leads s.profile 3
      (f.hand vs) ∧ e.Closed s.profile c d' g o f) : s.SampleCloses r c d g o := by
  obtain ⟨f, hleads, hf⟩ := hends (laterArrivals (latestLines s.eng.latest))
  have hpath : f.water.state ≠ .empty := hf.path (by rw [he.water]; exact h.path)
  have hholds := he.holds hf h.only
  obtain ⟨x, hx, hexec⟩ := h.leads (P := (· = f)) (n := 0) (h.leads_cause hrise hleads) hholds hpath
    (fun x hx => hx ▸ ⟨hholds, hf.agenda.trans he.agenda⟩)
    (fun vs => ⟨f, by rw [Engine.ctxArrival_idle (e := f.hand vs) _ hf.free]; exact .refl _ _, rfl⟩) (by decide)
  rw [hx] at hexec
  exact State.sampleCloses_of_closed hd he hf hexec

/-- A sample at a set level that closes the string as its context takes it. -/
theorem State.FaultStands.closes_of_sample (h : s.FaultStands r c d g)
    (hlevel : (latestLines s.eng.latest).chgFault = true)
    (hd : d.EndsAs d' ((latestLines s.eng.latest).chgFault = false)) (he : s.Closing r d d' g o e)
    (hends : ∀ vs, ∃ f, (((s.eng.sampled s.profile r).hand vs).ctxArrival s.profile c).Leads s.profile 3 (f.hand vs)
      ∧ e.Closed s.profile c d' g o f) : s.SampleCloses r c d g o := by
  have hport := (s.eng.sampled s.profile r).leads_charger_quiet (prev := latestLines s.eng.latest) s.profile
    (laterArrivals (latestLines s.eng.latest)) fun _ => hlevel
  obtain ⟨f, hf, hexec⟩ := h.leads hport ⟨rfl, h.only⟩ h.path
    (fun f hf => ⟨he.holds hf h.only, hf.agenda.trans he.agenda⟩) hends (by decide)
  exact State.sampleCloses_of_closed hd he hf hexec

/-! ## The closings, phase by phase -/

/-- The blocks once the string of a RETURN has been stranded again, whatever the charger and the line have become. -/
theorem State.FaultStands.closing_stranded (h : s.FaultStands r c d g) (hk : d.kind = .giveBack)
    (hd : d'.kind = d.kind ∧ d'.leftLoad = d.leftLoad) (ch : Charger) (l : Line) :
    s.Closing r d d' g .stranded { (s.eng.sampled s.profile r).putStr g (s.eng.str g).strandedAgain with
      charger := ch, line := l, raised := s.eng.raised ++ [.stranded] } where
  measured := rfl
  board := rfl
  ctxs := rfl
  water := rfl
  agenda := h.attends.2.1
  raised := congrArg (· ++ [Event.stranded]) h.attends.2.2
  string := by
    have hrecord := (s.eng.sampled s.profile r).str_putStr_same g (s.eng.str g).strandedAgain
    refine (congrArg (d'.history s.profile .stranded s.eng.sampleTime) hrecord).trans ?_
    rw [Round.history_stranded _ _ _ (hd.1.trans hk), hd.2]
    rfl
  strings := fun _ hk => Engine.str_putStr_other _ _ hk

/-- A RETURN in SWEEPING at the rise is stranded again (R138). -/
theorem State.FaultStands.closes_sweeping (h : s.FaultStands r c d g)
    (hrise : (latestLines s.eng.latest).chgFault = false) (hf : d.firstCause = none) (hpart : d.inWatering = false)
    (hk : d.kind = .giveBack) (hp : d.phase = .sweeping) (hsel : (s.eng.str g).sel = .atOpen) :
    s.SampleCloses r c d g .stranded := by
  let e := (s.eng.sampled s.profile r).withdrawSweep c
  have hstrand : e.strand g = { e.putStr g (s.eng.str g).strandedAgain with raised := s.eng.raised ++ [.stranded] } :=
    Engine.strand_open hsel
  have he : s.Closing r d (d.takeCause .chargerFault) g .stranded (e.strand g) := by
    rw [hstrand]
    exact h.closing_stranded hk ⟨d.takeCause_kind _, d.takeCause_leftLoad _⟩ s.eng.charger e.line
  refine h.closes_of_cause hrise (Round.endsAs_takeCause _ hf hpart) he fun vs => ?_
  rw [Engine.takeCause_first _ _ _ hf,
    Engine.bringToRest_sweeping ((d.takeCause_phase _).trans hp) ((d.takeCause_kind _).trans hk)]
  exact Engine.leads_closeStranded (e := e) s.profile vs ((d.takeCause_cur _).trans h.cur) hsel h.queue h.charger
    (Round.onLast_takeCause _ _ (.inr hk) hf hpart)

/-- The blocks once a RETURN has given up its string on the sample. -/
theorem State.FaultStands.closing_givenUp (h : s.FaultStands r c d g) (hk : d.kind = .giveBack)
    (hd : d'.kind = d.kind ∧ d'.leftLoad = d.leftLoad) :
    s.Closing r d d' g .stranded ((s.eng.sampled s.profile r).givenUp g) :=
  h.closing_stranded hk hd { enable := false, setpoint := 0, limit := 0 } s.eng.line

/-- A RETURN in PRECHARGE at the rise gives up its string (R139). -/
theorem State.FaultStands.closes_precharge_rise (h : s.FaultStands r c d g)
    (hrise : (latestLines s.eng.latest).chgFault = false) (hf : d.firstCause = none) (hpart : d.inWatering = false)
    (hk : d.kind = .giveBack) (hp : d.phase = .precharge) (hsel : (s.eng.str g).sel = .atOpen) :
    s.SampleCloses r c d g .stranded := by
  refine h.closes_of_cause hrise (Round.endsAs_takeCause _ hf hpart)
    (h.closing_givenUp hk ⟨d.takeCause_kind _, d.takeCause_leftLoad _⟩) fun vs => ?_
  rw [Engine.takeCause_first _ _ _ hf, Engine.bringToRest_precharge ((d.takeCause_phase _).trans hp),
    if_pos ((d.takeCause_kind _).trans hk)]
  exact Engine.leads_giveUpReturn s.profile vs ((d.takeCause_cur _).trans h.cur) hsel h.queue h.charger
    (Round.onLast_takeCause _ _ (.inr hk) hf hpart)

/-- A RETURN in PRECHARGE at a set level gives up its last string (R139, log 20). -/
theorem State.FaultStands.closes_precharge_level (h : s.FaultStands r c d g)
    (hlevel : (latestLines s.eng.latest).chgFault = true) (hpart : d.inWatering = false) (hk : d.kind = .giveBack)
    (hcode : orderCode (s.eng.slot d.slot) = 4) (hm : d.remaining = 0) (hp : d.phase = .precharge)
    (hsel : (s.eng.str g).sel = .atOpen) : s.SampleCloses r c d g .stranded := by
  have hno : ¬ (latestLines s.eng.latest).chgFault = false := by rw [hlevel]; decide
  refine h.closes_of_sample hlevel (Round.endsAs_self hno hpart hm) (h.closing_givenUp hk ⟨rfl, rfl⟩) fun vs => ?_
  have hgives : d.kind = .giveBack ∧ (sampleOf s.eng.sampleTime r).lines.chgFault = true := ⟨hk, h.set⟩
  rw [Engine.ctxArrival_precharge (e := (s.eng.sampled s.profile r).hand vs) s.profile h.round rfl hp,
    Engine.prechargeSample, if_pos hgives]
  exact Engine.leads_giveUpReturn s.profile vs h.cur hsel h.queue h.charger
    ⟨.inr hk, hpart, .inr ⟨hm, thenWater_giveBack hcode⟩⟩

/-- A CHECK at the rise closes SITE_ABORT, its string untouched (R133). -/
theorem State.FaultStands.closes_check (h : s.FaultStands r c d g)
    (hrise : (latestLines s.eng.latest).chgFault = false) (hf : d.firstCause = none) (hpart : d.inWatering = false)
    (hk : d.kind = .equalise) (hp : d.phase = .check) (hleft : d.leftLoad = false) :
    s.SampleCloses r c d g .siteAbort := by
  let e := (s.eng.sampled s.profile r).withdrawSweep c
  have he : s.Closing r d (d.takeCause .chargerFault) g .siteAbort e := {
    measured := rfl
    board := rfl
    ctxs := rfl
    water := rfl
    agenda := h.attends.2.1
    raised := h.attends.2.2
    string := by
      have hstays : (d.takeCause .chargerFault).leftLoad = false := (d.takeCause_leftLoad _).trans hleft
      simp only [Round.history, hstays, Bool.false_eq_true, if_false]
      rfl
    strings := fun _ _ => rfl }
  refine h.closes_of_cause hrise (Round.endsAs_takeCause _ hf hpart) he fun vs => ?_
  rw [Engine.takeCause_first _ _ _ hf, Engine.bringToRest_check ((d.takeCause_phase _).trans hp), Engine.closeCurrent,
    (d.takeCause_cur _).trans h.cur]
  exact Engine.leads_closeLast (e := e) s.profile g vs h.queue h.charger rfl (Round.onLast_takeCause _ _ (.inl hk) hf hpart)

end

/-! ## The statement -/

/-- Settles O31: the cause as the round takes it, then a rise of CHG_FAULT phase by phase. -/
theorem firstCauseIsKept : Obligations.FirstCauseIsKept := by
  unfold Obligations.FirstCauseIsKept
  refine ⟨fun d x => ⟨fun h => Round.takeCause_later x h, fun h => ⟨Round.takeCause_firstCause x h,
    Round.takeCause_remaining x h, Round.takeCause_laterCauses x h, d.takeCause_pendingOutcome x, d.takeCause_phase x,
    d.takeCause_cur x, Round.takeCause_list x h⟩⟩, fun s r c d g hs hq hqueue hd hbusy hset hlow hempty hw => ?_⟩
  obtain ⟨hround, hcur, hcharger, howner, hfitted⟩ := hd
  have h : s.FaultStands r c d g :=
    ⟨hs, hq, hqueue, hround, hcur, hcharger, howner, hfitted, hbusy, hset, hlow, hempty, hw⟩
  intro now kept leaves off moves rises caused back
  refine ⟨fun hrise hp => ⟨fun hf hk => ?_, fun hf => ?_⟩, fun hrise hf hp hk hsel => ?_, fun hrise hf hp hsel => ?_,
    fun hrise hp hsel => ?_, ?_⟩
  · refine h.pends hrise hf ?_
    obtain hp | hp := hp
    · exact .inl hp
    · exact hk.imp_right fun hk => ⟨hp, by rw [hk]; decide⟩
  · exact h.records hrise hp hf
  · exact h.returnsFromOpen hrise hf hp (by rw [hk]; decide) hsel
  · exact h.strandsFromCharge hrise hf hp hsel
  · exact h.strandsFromMatch hrise hp hsel
  · intro strands aborts closes hf hpart
    refine ⟨fun ⟨hcode, hk, hsel, hwhen⟩ => ?_, fun ⟨hk, hp, hleft, hrise⟩ => h.closes_check hrise hf hpart hk hp hleft⟩
    obtain ⟨hp, hrise⟩ | ⟨hp, hwhen⟩ := hwhen
    · exact h.closes_sweeping hrise hf hpart hk hp hsel
    · cases hlevel : (latestLines s.eng.latest).chgFault with
      | false => exact h.closes_precharge_rise hlevel hf hpart hk hp hsel
      | true =>
        have hm := hwhen.resolve_left fun hrise => absurd (hlevel.symm.trans hrise) (by decide)
        exact h.closes_precharge_level hlevel hpart hk hcode hm hp hsel

end Sys2Proof.Machine
end

section
/-! SUPPORT. Frames that are sent survive the line, one after another (R55, R198, R199). -/

namespace Sys2Proof.Machine

/-! ## A line between two characters (R55) -/

/-- The line rests recessive and no character has begun, whether or not a frame has. -/
def Hearing.between (h : Hearing) : Prop := h.level = .recessive ∧ h.char = none

/-- Where no frame has begun, a recessive line brings none. -/
theorem Hearing.frames_recessive_waiting (n r : Nat) :
    Hearing.frames { level := .recessive, run := r, frame := none, char := none } (List.replicate n .recessive) = [] := by
  induction n generalizing r with
  | zero => rfl
  | succ n ih =>
    rw [List.replicate_succ, Hearing.frames_cons]
    exact ih (r + 1)

/-- A frame that is not complete is cut as the line has been recessive for more than ten bit times, and once (R55). -/
theorem Hearing.frames_recessive_open (bytes : List Byte) (n r : Nat) (h : 10 < r + n) :
    Hearing.frames { level := .recessive, run := r, frame := some bytes, char := none } (List.replicate n .recessive)
      = if n = 0 then [] else [bytes] := by
  induction n generalizing r with
  | zero => rfl
  | succ n ih =>
    rw [List.replicate_succ, Hearing.frames_cons]
    by_cases hr : 10 < r + 1
    · have hcut : Hearing.hear { level := .recessive, run := r, frame := some bytes, char := none } .recessive
          = ({ level := .recessive, run := r + 1, frame := none, char := none }, some bytes) := by
        simp only [Hearing.hear, Hearing.gap, Hearing.runOf, if_true, if_pos hr, Hearing.done]
      rw [hcut]
      simp [Hearing.frames_recessive_waiting]
    · have hstays : Hearing.hear { level := .recessive, run := r, frame := some bytes, char := none } .recessive
          = ({ level := .recessive, run := r + 1, frame := some bytes, char := none }, none) := by
        simp only [Hearing.hear, Hearing.gap, Hearing.runOf, if_true, if_neg hr]
      rw [hstays]
      have hn : n ≠ 0 := by omega
      simp [ih (r + 1) (by omega), hn]

/-- At the end of what is sent the line rests: the frame that has begun is cut, and no other comes (R55). -/
theorem Hearing.frames_at_rest {h : Hearing} (hb : h.between) :
    h.frames (List.replicate 11 .recessive) = h.frame.toList := by
  obtain ⟨l, r, frame, char⟩ := h
  obtain ⟨rfl, rfl⟩ : l = .recessive ∧ char = none := hb
  cases frame with
  | none => exact Hearing.frames_recessive_waiting 11 r
  | some bytes => exact Hearing.frames_recessive_open bytes 11 r (by omega)

/-! ## Start marks and characters (R198) -/

/-- A start mark begins a frame, and cuts the one that has begun and is not complete (R55, R198). -/
theorem Hearing.frames_startMark {h : Hearing} (hb : h.between) (rest : List LineLevel) :
    h.frames (startMark ++ rest) = h.frame.toList
      ++ Hearing.frames { level := .recessive, run := 1, frame := some [], char := none } rest := by
  obtain ⟨l, r, frame, char⟩ := h
  obtain ⟨rfl, rfl⟩ : l = .recessive ∧ char = none := hb
  cases frame <;> rfl

/-- Characters that follow one another join the frame that has begun; the eleventh byte completes it. -/
theorem Hearing.frames_characters (rest : List LineLevel) (vs bytes : List Byte) (r : Nat)
    (hbytes : bytes.length < readingLength) (hall : bytes.length + vs.length ≤ readingLength) :
    ∃ h : Hearing, h.between ∧ ∃ out, out ++ h.frame.toList = [bytes ++ vs] ∧
      Hearing.frames { level := .recessive, run := r, frame := some bytes, char := none }
        ((vs.map charLevels).flatten ++ rest) = out ++ h.frames rest := by
  induction vs generalizing bytes r with
  | nil => exact ⟨_, ⟨rfl, rfl⟩, [], by simp, rfl⟩
  | cons v vs ih =>
    have hlen : (v :: vs).length = vs.length + 1 := rfl
    obtain ⟨r', hv⟩ := Hearing.frames_char { level := .recessive, run := r, frame := some bytes, char := none } bytes v
      ((vs.map charLevels).flatten ++ rest) rfl rfl
    rw [List.map_cons, List.flatten_cons, List.append_assoc, hv]
    by_cases hlast : bytes.length + 1 = readingLength
    · obtain rfl : vs = [] := List.length_eq_zero_iff.mp (by omega)
      exact ⟨_, ⟨rfl, rfl⟩, [bytes ++ [v]], rfl, by rw [if_pos hlast]; rfl⟩
    · have hnext : (bytes ++ [v]).length = bytes.length + 1 := List.length_append
      obtain ⟨h, hb, out, hout, hframes⟩ := ih (bytes ++ [v]) r' (by omega) (by omega)
      exact ⟨h, hb, out, by simpa using hout, by rw [if_neg hlast]; exact hframes⟩

/-! ## Frames one after another -/

/-- A frame on the line cuts the one before it, and is heard as its bytes: now if it is complete, or else as it is cut. -/
theorem Hearing.frames_frameLevels {h : Hearing} (hb : h.between) {f : List Byte} (hf : f.length ≤ readingLength)
    (rest : List LineLevel) :
    ∃ h' : Hearing, h'.between ∧ ∃ out, out ++ h'.frame.toList = [f] ∧
      h.frames (frameLevels f ++ rest) = h.frame.toList ++ (out ++ h'.frames rest) := by
  obtain ⟨h', hb', out, hout, hframes⟩ := Hearing.frames_characters rest f [] 1 (by decide) (by simpa using hf)
  refine ⟨h', hb', out, hout, ?_⟩
  rw [frameLevels, List.append_assoc, Hearing.frames_startMark hb, hframes]

/-- What is sent one frame after another is heard frame by frame, behind the frame that had begun. -/
theorem Hearing.frames_sent (fs : List (List Byte)) (hfs : ∀ f ∈ fs, f.length ≤ readingLength) {h : Hearing}
    (hb : h.between) :
    h.frames ((fs.map frameLevels).flatten ++ List.replicate 11 .recessive) = h.frame.toList ++ fs := by
  induction fs generalizing h with
  | nil => simpa using Hearing.frames_at_rest hb
  | cons f fs ih =>
    obtain ⟨hf, hrest⟩ := List.forall_mem_cons.mp hfs
    obtain ⟨h', hb', out, hout, hframes⟩ :=
      Hearing.frames_frameLevels hb hf ((fs.map frameLevels).flatten ++ List.replicate 11 .recessive)
    rw [List.map_cons, List.flatten_cons, List.append_assoc, hframes, ih hrest hb', ← List.append_assoc out, hout]
    rfl

/-- A line at rest hears the frames that are sent. -/
theorem receiveFrames_sent {fs : List (List Byte)} (hfs : ∀ f ∈ fs, f.length ≤ readingLength) :
    receiveFrames (fs.map frameLevels).flatten = fs :=
  Hearing.frames_sent fs hfs (h := .rest) ⟨rfl, rfl⟩

/-- A line at rest hears the one frame that is sent. -/
theorem receiveFrames_frameLevels {f : List Byte} (hf : f.length ≤ readingLength) :
    receiveFrames (frameLevels f) = [f] := by
  have h := receiveFrames_sent (fs := [f]) (by simpa using hf)
  simpa using h

/-! ## Readings (R198, R199) -/

/-- Two bytes put together again. -/
theorem frameHalf_split (x : Half) : frameHalf (x.extractLsb' 0 8) (x.extractLsb' 8 8) = x := addressOf_split x

/-- A READING's kind byte gives back its kind and its tag. -/
theorem kindByte_fields (tag : BitVec 4) :
    ((0x8 : BitVec 4) ++ tag).extractLsb' 4 4 = 0x8#4 ∧ ((0x8 : BitVec 4) ++ tag).extractLsb' 0 4 = tag := by
  revert tag; decide

/-- The bytes of a READING give back its fields, and its frame check passes. -/
theorem readingOf_readingFrame (r : Reading) : readingOf (readingFrame r) = some r := by
  obtain ⟨hkind, htag⟩ := kindByte_fields r.tag
  simp only [readingFrame, withCheck, List.cons_append, List.nil_append, readingOf, frameHalf_split, hkind, htag,
    and_self, if_true]

/-- The check value of R199, over the nine digits. -/
theorem frameCheck_digits : frameCheck [0x31, 0x32, 0x33, 0x34, 0x35, 0x36, 0x37, 0x38, 0x39] = 0x29B1 := by
  decide +kernel

/-- Settles O44: a frame at a time, behind whatever had begun; then the fields of a READING from its bytes. -/
theorem readingFrameRoundTrip : Obligations.ReadingFrameRoundTrip :=
  ⟨fun _ hf => receiveFrames_frameLevels hf, fun _ hfs => receiveFrames_sent hfs,
    fun r => ⟨receiveFrames_frameLevels (le_refl readingLength), readingOf_readingFrame r⟩, frameCheck_digits⟩

end Sys2Proof.Machine
end

section
/-! SUPPORT. The line's own events: waking, sleeping, a CALL sent and a recovery time that ends (R45, R46, R51, R61). -/

namespace Sys2Proof.Machine

/-! ## What an attending part does -/

theorem Engine.Leads.of_eq {p : Profile} {e e' : Engine} (h : e = e') : e.Leads p 0 e' := h ▸ .refl p e

/-- What the blocks do, with the few pieces of work it leads to, is all that an attending part does; the events that are
handed are judged. -/
theorem State.whenAwake_raised {s : State} {f : Engine → Engine} {n : Nat} {e : Engine} {evs : List Event}
    (hs : s.attending) (h : (f s.eng).Leads s.profile n { e with raised := evs }) (hn : n ≤ 1000) (ha : e.agenda = [])
    (hr : e.raised = []) : s.whenAwake f = { s with eng := e, alert := evs.foldl Alert.capture s.alert } :=
  (State.whenAwake_attending s f hs).trans (State.act_leads_raised h hn ha hr)

/-- As before, where no event is handed. -/
theorem State.whenAwake_quiet {s : State} {f : Engine → Engine} {n : Nat} {e : Engine} (hs : s.attending)
    (h : (f s.eng).Leads s.profile n e) (hn : n ≤ 1000) (ha : e.agenda = []) (hr : e.raised = []) :
    s.whenAwake f = { s with eng := e } :=
  (State.whenAwake_attending s f hs).trans (State.act_leads_quiet h hn ha hr)

/-- Where the blocks change the line alone, nothing else follows. -/
theorem State.whenAwake_line {s : State} {f : Engine → Engine} {l : Line} (hs : s.attending)
    (hf : f s.eng = { s.eng with line := l }) : s.whenAwake f = { s with eng := { s.eng with line := l } } :=
  State.whenAwake_quiet hs (.of_eq hf) (by decide) hs.2.1 hs.2.2

/-! ## Waking and sleeping (R45, R46) -/

theorem Engine.wakePatternSent_waking {e : Engine} (p : Profile) (hl : e.line.state = .waking)
    (hd : e.line.sending = .wakePattern) :
    e.wakePatternSent p
      = { e with line := { e.line with sending := .nothing, settle := some (fieldNat p fldWakeSettle) } } :=
  if_pos ⟨hl, hd⟩

/-- A free line with nothing listed starts its idle timer (R46, R53). -/
theorem Engine.nextSweep_idle {e : Engine} (p : Profile) (hf : e.line.free = true) (hl : e.line.list = []) :
    e.nextSweep p = { e with line := { e.line with idle := some (fieldNat p fldLineIdle) } } := by
  rw [Engine.nextSweep, if_pos hf, if_pos hl]
  rfl

theorem Engine.wakeSettleEnd_unlisted {e : Engine} (p : Profile) (ht : e.line.settle ≠ none) (hl : e.line.list = [])
    (hw : e.line.sweep = none) (hd : e.line.sending = .nothing) (hn : e.line.finishing = false) :
    e.wakeSettleEnd p = { e with line := { e.line with
      settle := none, state := .active, errors := 0, idle := some (fieldNat p fldLineIdle) } } := by
  let woken : Engine := { e with line := { e.line with settle := none, state := .active, errors := 0 } }
  have hfree : woken.line.free = true := by
    show (true && e.line.sweep.isNone && e.line.sending == .nothing && !e.line.finishing) = true
    simp [hw, hd, hn]
  rw [Engine.wakeSettleEnd, if_pos (Option.isSome_iff_ne_none.mpr ht)]
  exact Engine.nextSweep_idle (e := woken) p hfree hl

theorem Engine.idleExpiry_runs {e : Engine} (ht : e.line.idle ≠ none) :
    e.idleExpiry = { e with line := { e.line with idle := none, sending := .sleep (frameLevels sleepFrame) } } :=
  if_pos (Option.isSome_iff_ne_none.mpr ht)

/-- The line sleeps once the SLEEP frame has been sent; it wakes at once where requests were listed meanwhile (R46). -/
theorem Engine.sleepSent_sleep {e : Engine} {f : List LineLevel} (hd : e.line.sending = .sleep f) :
    e.sleepSent = { e with line :=
      if e.line.list = [] then { e.line with sending := .nothing, state := .asleep }
      else { e.line with sending := .wakePattern, state := .waking, settle := none } } := by
  simp only [Engine.sleepSent, hd]
  by_cases hl : e.line.list = []
  · rw [if_pos hl]
    exact if_pos hl
  · rw [if_neg hl]
    exact if_neg hl

/-- Settles O45: each of the four commands changes the line alone. -/
theorem lineWakesAndSleeps : Obligations.LineWakesAndSleeps := by
  unfold Obligations.LineWakesAndSleeps
  intro s hs l line
  have changes {i : Instr} {f : Engine → Engine} {l' : Line} (hi : exec i s = .next (s.whenAwake f))
      (hf : f s.eng = { s.eng with line := l' }) : exec i s = line l' :=
    hi.trans (congrArg Host.Outcome.next (State.whenAwake_line hs hf))
  refine ⟨fun hl hd => ?_, fun ht hl hw hd hn => ?_, fun ht => ?_, fun f hd => ⟨fun hl => ?_, fun hl => ?_⟩⟩
  · exact changes rfl (Engine.wakePatternSent_waking s.profile hl hd)
  · exact changes rfl (Engine.wakeSettleEnd_unlisted s.profile ht hl hw hd hn)
  · exact changes rfl (Engine.idleExpiry_runs ht)
  · exact changes rfl ((Engine.sleepSent_sleep hd).trans (by rw [if_pos hl]))
  · exact changes rfl ((Engine.sleepSent_sleep hd).trans (by rw [if_neg hl]))

/-! ## A CALL sent, and a recovery time that ends (R51, R61) -/

theorem Engine.callSent_call {e : Engine} (p : Profile) {f : List LineLevel} {w : Sweep} (hd : e.line.sending = .call f)
    (hw : e.line.sweep = some w) :
    e.callSent p = { e with line := { e.line with
      sending := .nothing, window := some (fieldNat p fldWindow), sweep := some { w with windowOpen := true } } } := by
  simp only [Engine.callSent, hd, Engine.modLine, hw, Option.map_some]

/-- The line as a trial begins (R45, R61). -/
def Line.trying (l : Line) : Line :=
  { l with recovery := none, errors := 0, stuck := 0, silent := 0, trial := true, state := .waking,
           sending := .wakePattern, settle := none }

theorem Engine.recoveryExpiry_runs {e : Engine} (ht : e.line.recovery ≠ none) :
    e.recoveryExpiry = ({ e with line := e.line.trying } : Engine).hand [.scan] :=
  if_pos (Option.isSome_iff_ne_none.mpr ht)

theorem Engine.recoveryExpiry_stopped {e : Engine} (ht : e.line.recovery = none) : e.recoveryExpiry = e := by
  simp only [Engine.recoveryExpiry, ht, Option.isSome_none, Bool.false_eq_true, if_false]

/-- Settles O46: the CALL, then the recovery timer; the scan that follows it finds no order waiting. -/
theorem callAndRecovery : Obligations.CallAndRecovery := by
  unfold Obligations.CallAndRecovery
  intro s hs l
  refine ⟨fun f w hd hw => ?_, fun ht hq => ?_, fun ht => ?_⟩
  · exact congrArg Host.Outcome.next (State.whenAwake_line hs (Engine.callSent_call s.profile hd hw))
  · have hleads : s.eng.recoveryExpiry.Leads s.profile 1 { s.eng with line := s.eng.line.trying } := by
      rw [Engine.recoveryExpiry_runs ht]
      exact Engine.leads_scan_empty (e := { s.eng with line := s.eng.line.trying }) s.profile [] hq
    exact congrArg Host.Outcome.next (State.whenAwake_quiet hs hleads (by decide) hs.2.1 hs.2.2)
  · exact congrArg Host.Outcome.next (State.whenAwake_unchanged hs (Engine.recoveryExpiry_stopped ht))

end Sys2Proof.Machine
end

section
/-! SUPPORT. Frames that arrive: bad, stray and not taken (R55 to R57, R59, R63). -/

namespace Sys2Proof.Machine

/-! ## One frame arrives (log 25) -/

/-- The one frame that levels bring is the one piece of work they lead to. -/
theorem Engine.leads_frame (p : Profile) {e : Engine} {levels : List LineLevel} {bytes : List Byte}
    (hl : receiveFrames levels = [bytes]) : (e.frame levels).Leads p 1 (e.received p bytes) := by
  rw [Engine.frame, hl]
  exact .step rfl (.refl p _)

/-- A frame that hands over events and no work: the events are judged. -/
theorem exec_frame_raised {s : State} {levels : List LineLevel} {bytes : List Byte} {e : Engine} {evs : List Event}
    (hs : s.attending) (hl : receiveFrames levels = [bytes]) (he : s.eng.received s.profile bytes = { e with raised := evs })
    (ha : e.agenda = []) (hr : e.raised = []) :
    exec (.frameReceived levels) s = .next { s with eng := e, alert := evs.foldl Alert.capture s.alert } := by
  have hleads := Engine.leads_frame (e := s.eng) s.profile hl
  rw [he] at hleads
  exact congrArg Host.Outcome.next (State.whenAwake_raised (f := fun e => e.frame levels) hs hleads (by decide) ha hr)

/-- A frame that changes the line alone. -/
theorem exec_frame_line {s : State} {levels : List LineLevel} {bytes : List Byte} {l : Line} (hs : s.attending)
    (hl : receiveFrames levels = [bytes]) (he : s.eng.received s.profile bytes = { s.eng with line := l }) :
    exec (.frameReceived levels) s = .next { s with eng := { s.eng with line := l } } := by
  have hleads := Engine.leads_frame (e := s.eng) s.profile hl
  rw [he] at hleads
  exact congrArg Host.Outcome.next
    (State.whenAwake_quiet (f := fun e => e.frame levels) hs hleads (by decide) hs.2.1 hs.2.2)

/-! ## Whether the receiver takes a frame, and how it is classified (R55 to R57) -/

theorem Line.receives_iff {l : Line} : l.receives = true ↔
    (l.state = .asleep ∨ l.state = .waking ∨ l.state = .active) ∧ l.sending = .nothing := by
  simp [Line.receives, or_assoc]

theorem Engine.received_taken {e : Engine} (p : Profile) (bytes : List Byte) (h : e.line.receives = true) :
    e.received p bytes = e.classify p bytes := if_pos h

theorem Engine.received_untaken {e : Engine} (p : Profile) (bytes : List Byte) (h : ¬ e.line.receives = true) :
    e.received p bytes = e := if_neg h

/-- A frame without a reading, or with one out of range, is bad (R56). -/
theorem Engine.classify_bad (e : Engine) (p : Profile) {bytes : List Byte}
    (h : readingOf bytes = none ∨ ∃ r, readingOf bytes = some r ∧ r.inRange = false) :
    e.classify p bytes = e.badFrame p := by
  obtain h | ⟨r, h, hr⟩ := h
  · simp only [Engine.classify, h]
  · simp only [Engine.classify, h, hr, Bool.false_eq_true, if_false]

/-- A frame with a reading in range is sound (R57). -/
theorem Engine.classify_sound (e : Engine) (p : Profile) {bytes : List Byte} {r : Reading} (h : readingOf bytes = some r)
    (hr : r.inRange = true) : e.classify p bytes = e.soundFrame p r := by
  simp only [Engine.classify, h, hr, if_true]

/-! ## Bad frames (R56, R59) -/

theorem Engine.badFrame_counted {e : Engine} (p : Profile) (h : e.line.errors + 1 < 32) :
    e.badFrame p = { e with line := { e.line with errors := e.line.errors + 1 } } := by
  have hbump : bump 32 e.line.errors = e.line.errors + 1 := min_eq_right (by omega)
  simp only [Engine.badFrame, Engine.modLine, hbump, if_neg (Nat.ne_of_lt h)]

/-- The line as it enters FAULTED, its list and its sweep given back (R59). -/
def Line.faulted (l : Line) (p : Profile) (x : LineCause) : Line :=
  { l with state := .faulted, cause := x, sending := .nothing, idle := none, settle := none, window := none,
           trial := false, recovery := some (fieldNat p fldRecovery), sweep := none, list := [],
           faultCount := min 255 (l.faultCount + 1) }

/-- A fault with no request listed, and no sweep or one that is withdrawn, gives nothing back (R59). -/
theorem Engine.faultLine_unserved {e : Engine} (p : Profile) (x : LineCause) (hl : e.line.list = [])
    (hw : ∀ w, e.line.sweep = some w → w.withdrawn = true) :
    e.faultLine p x = { e with line := e.line.faulted p x, raised := e.raised ++ [.lineFault] } := by
  have hnone : e.line.failAll = [] := by
    cases hsweep : e.line.sweep with
    | none => simp only [Line.failAll, hsweep, hl, List.map_nil, List.append_nil]
    | some w => simp only [Line.failAll, hsweep, hl, hw w hsweep, if_true, List.map_nil, List.append_nil]
  simp only [Engine.faultLine, hnone, Engine.hand_nil]
  rfl

/-- As before, where there is no sweep and nothing listed. -/
theorem Line.faulted_unserved {l : Line} (p : Profile) (x : LineCause) (hl : l.list = []) (hw : l.sweep = none) :
    l.faulted p x = { l with
      state := .faulted, cause := x, sending := .nothing, idle := none, settle := none, window := none, trial := false,
      recovery := some (fieldNat p fldRecovery), faultCount := min 255 (l.faultCount + 1) } := by
  simp only [Line.faulted, hl, hw]

/-- The thirty-second bad frame brings the line to FAULTED (R56, R59), here with nothing listed and no sweep. -/
theorem Engine.badFrame_degrades {e : Engine} (p : Profile) (h : e.line.errors = 31) (hl : e.line.list = [])
    (hw : e.line.sweep = none) :
    e.badFrame p = { e with
      line := { e.line with
        errors := 32, state := .faulted, cause := .degraded, sending := .nothing, idle := none, settle := none,
        window := none, trial := false, recovery := some (fieldNat p fldRecovery),
        faultCount := min 255 (e.line.faultCount + 1) },
      raised := e.raised ++ [.lineFault] } := by
  have hbump : bump 32 e.line.errors = 32 := by rw [h]; rfl
  let full : Engine := { e with line := { e.line with errors := 32 } }
  have hnone : ∀ w, full.line.sweep = some w → w.withdrawn = true := fun w hsome =>
    absurd (hw.symm.trans hsome) (Option.some_ne_none w).symm
  simp only [Engine.badFrame, Engine.modLine, hbump, if_true]
  refine (Engine.faultLine_unserved (e := full) p .degraded hl hnone).trans ?_
  rw [Line.faulted_unserved (l := full.line) p .degraded hl hw]

/-! ## Stray frames (R57, R63) -/

/-- The position of a source address, where it has one. -/
theorem Reading.pos_eq_some {r : Reading} {q : Position} : r.pos = some q ↔ q.val = r.source.toNat % 32 := by
  unfold Reading.pos Reading.position
  split
  · rw [Option.some_inj, Fin.ext_iff, eq_comm]
  · have := q.isLt
    constructor
    · intro h; cases h
    · omega

/-- A sweep awaits a reading with its tag, within its window, from an address expected that has not replied (R57). -/
theorem Sweep.awaits_iff {w : Sweep} {r : Reading} {q : Position} : w.awaits r q = true ↔
    w.windowOpen = true ∧ r.tag = w.tag ∧ (w.expected.get r.stringId).getLsbD q.val = true
      ∧ (w.replied.get r.stringId).getLsbD q.val = false := by
  simp [Sweep.awaits, AddrSet.has, hasPos, and_assoc]

/-- A sound frame that the sweep in progress, if one is, does not await is a stray (R57, R63). -/
theorem Engine.soundFrame_stray {e : Engine} (p : Profile) {r : Reading}
    (h : ∀ w, e.line.sweep = some w → ∀ q, r.pos = some q → w.awaits r q = false) :
    e.soundFrame p r = e.strayFrame := by
  unfold Engine.soundFrame
  split
  next w q hw hq => rw [h w hw q hq, if_neg Bool.false_ne_true]
  next => rfl

/-- Settles O47: the frame by whether it is taken and how it is classified. -/
theorem badAndStrayFramesAreCounted : Obligations.BadAndStrayFramesAreCounted := by
  unfold Obligations.BadAndStrayFramesAreCounted
  intro s levels bytes hs hone l line taken
  have classified (ht : taken) : s.eng.received s.profile bytes = s.eng.classify s.profile bytes :=
    Engine.received_taken s.profile bytes (Line.receives_iff.mpr ht)
  refine ⟨fun ht hlow hbad => ?_, fun ht hlast hbad hl hw => ?_, fun ht r hr hin hstray => ?_, fun ht => ?_⟩
  · refine exec_frame_line hs hone ?_
    rw [classified ht, Engine.classify_bad _ _ hbad, Engine.badFrame_counted _ hlow]
  · have hfaults := (classified ht).trans ((Engine.classify_bad _ _ hbad).trans
      (Engine.badFrame_degrades s.profile hlast hl hw))
    rw [hs.2.2] at hfaults
    exact exec_frame_raised (evs := [.lineFault]) hs hone hfaults hs.2.1 hs.2.2
  · refine exec_frame_line hs hone ?_
    rw [classified ht, Engine.classify_sound _ _ hr hin, Engine.soundFrame_stray]
    · rfl
    · intro w hw q hq
      refine Bool.eq_false_iff.mpr fun hawaits => ?_
      obtain ⟨hopen, htag, hexpected, hreplied⟩ := Sweep.awaits_iff.mp hawaits
      obtain h | h | h := hstray w hw
      · exact absurd (hopen.symm.trans h) (by decide)
      · exact h htag
      · obtain h | h := h q (Reading.pos_eq_some.mp hq)
        · exact absurd (hexpected.symm.trans h) (by decide)
        · exact absurd (hreplied.symm.trans h) (by decide)
  · have huntaken := Engine.received_untaken s.profile bytes (e := s.eng) (mt Line.receives_iff.mp ht)
    exact exec_frame_line hs hone huntaken

end Sys2Proof.Machine
end

section
/-! SUPPORT. A good reply is stored in its cell record, and joins the replied set (R58, R67 to R69, R73). -/

namespace Sys2Proof.Machine

/-! ## Cell records -/

theorem Engine.putCell_putCell (e : Engine) (g : StringId) (q : Position) (x y : Cell) :
    (e.putCell g q x).putCell g q y = e.putCell g q y := by
  have hset : (e.putCell g q x).cells.get g = (e.cells.get g).set q x := get_set_same _ _ _
  rw [Engine.putCell, hset]
  simp [Engine.putCell]

/-- The events of sticky flags that are set in a record: CELL_FLAG if one of them was clear (R69). -/
def Cell.flagEvents (x : Cell) (f : Byte) : List Event := if x.gains f then [.cellFlag] else []

theorem Engine.flagCell_eq (e : Engine) (g : StringId) (q : Position) (f : Byte) :
    e.flagCell g q f = { e.putCell g q ((e.cell g q).setFlags f) with
      raised := e.raised ++ (e.cell g q).flagEvents f } := by
  by_cases h : (e.cell g q).gains f = true
  · rw [Cell.flagEvents, if_pos h]
    exact if_pos h
  · rw [Cell.flagEvents, if_neg h, List.append_nil]
    exact if_neg h

/-- CELL_FLAG is captured if one of the flags that are set was clear. -/
theorem foldl_flagEvents (a : Alert) (x : Cell) (f : Byte) :
    (x.flagEvents f).foldl Alert.capture a = if f &&& ~~~ x.flags = 0 then a else a.capture .cellFlag := by
  by_cases h : f &&& ~~~ x.flags = 0
  · rw [Cell.flagEvents, Cell.gains, if_neg (mt bne_iff_ne.mp (not_not_intro h)), if_pos h]
    rfl
  · rw [Cell.flagEvents, Cell.gains, if_pos (bne_iff_ne.mpr h), if_neg h]
    rfl

/-! ## What a reading shows (R68) -/

/-- A field whose range has no negative value, as a number. -/
theorem fieldNat_cast (p : Profile) {f : ProfileField} (h : 0 ≤ f.low) : (fieldNat p f : Int) = fieldRead p f :=
  Int.toNat_of_nonneg (h.trans (le_max_left _ _))

theorem readingFlags_eq (p : Profile) (volts : Nat) (temp : Int) (level : Level) : readingFlags p volts temp level =
    (if fieldNat p fldCellHigh < volts then 0x01 else 0) ||| (if fieldRead p fldHotAbort < temp then 0x02 else 0)
      ||| (if level = .below then 0x04 else 0) ||| (if level = .probeFault then 0x08 else 0) := by
  have hhigh : fieldRead p fldCellHigh < volts ↔ fieldNat p fldCellHigh < volts := by
    rw [← fieldNat_cast p (f := fldCellHigh) (by decide), Int.ofNat_lt]
  simp only [readingFlags, hhigh]
  rfl

/-! ## The record of a good reply (R67, R73) -/

/-- A record as a good reply leaves it but for its flags: what was measured, and, for a HOLD sweep that names its context,
the settle streak by the bands of the order `y`. -/
def Cell.heard (x : Cell) (w : Sweep) (y : Slot) (r : Reading) (now : Clock) : Cell :=
  if w.req.purpose = .hold ∧ w.withdrawn = false then
    (x.store r now).settle (voltBand y) (gravityBand y) r.voltage r.gravity
  else x.store r now

theorem Cell.heard_flags (x : Cell) (w : Sweep) (y : Slot) (r : Reading) (now : Clock) :
    (x.heard w y r now).flags = x.flags := by
  unfold Cell.heard
  split <;> rfl

/-- A good reply is stored, and its flags are set (R67 to R69). -/
theorem Engine.storeReading_eq (e : Engine) (p : Profile) (w : Sweep) (r : Reading) (q : Position) :
    e.storeReading p w r q =
      (let x := e.cell r.stringId q
       let shows := readingFlags p r.voltage.toNat r.temperature.toInt r.levelOf
       { e.putCell r.stringId q { x.heard w (e.slot w.req.slot) r e.clock with flags := x.flags ||| shows } with
         raised := e.raised ++ x.flagEvents shows }) := by
  have hheld : (w.req.purpose == .hold && !w.withdrawn) = true ↔ w.req.purpose = .hold ∧ w.withdrawn = false := by simp
  simp only [Engine.storeReading, hheld]
  rw [show (if w.req.purpose = .hold ∧ w.withdrawn = false then _ else _)
      = (e.cell r.stringId q).heard w (e.slot w.req.slot) r e.clock from rfl, Engine.flagCell_eq,
    Engine.cell_putCell_same, Engine.putCell_putCell]
  simp only [Cell.setFlags, Cell.flagEvents, Cell.gains, Cell.heard_flags]
  rfl

/-! ## The sweep in progress (R57, R58) -/

/-- A frame that the sweep in progress awaits is a good reply. -/
theorem Engine.soundFrame_reply {e : Engine} (p : Profile) {w : Sweep} {r : Reading} {q : Position}
    (hw : e.line.sweep = some w) (hq : r.pos = some q) (h : w.awaits r q = true) :
    e.soundFrame p r = e.goodReply p w r q := by
  simp only [Engine.soundFrame, hw, hq, h, if_true]

/-- A good reply that does not make the replied set whole: the reading is stored, and the line's counters follow. -/
theorem Engine.goodReply_partial (e : Engine) (p : Profile) {w : Sweep} {r : Reading} {q : Position}
    (h : w.replied.add r.stringId q ≠ w.expected) :
    e.goodReply p w r q = { e.storeReading p w r q with line := { (e.storeReading p w r q).line with
      sweep := some { w with replied := w.replied.add r.stringId q },
      errors := (e.storeReading p w r q).line.errors - 1, silent := 0 } } := if_neg h

/-- Settles O48: the frame is awaited, and what a good reply stores is what follows. -/
theorem goodReplyIsStored : Obligations.GoodReplyIsStored := by
  unfold Obligations.GoodReplyIsStored
  intro s levels bytes r w q hs hone hr hin hq htaken hw hopen htag hexpected hreplied hpart x stored held shows
  have hawaits : w.awaits r q = true := Sweep.awaits_iff.mpr ⟨hopen, htag, hexpected, hreplied⟩
  have hreply : s.eng.received s.profile bytes = s.eng.goodReply s.profile w r q :=
    (Engine.received_taken _ _ htaken).trans ((Engine.classify_sound _ _ hr hin).trans
      (Engine.soundFrame_reply _ hw (Reading.pos_eq_some.mpr hq) hawaits))
  have hshows : readingFlags s.profile r.voltage.toNat r.temperature.toInt r.levelOf = shows := readingFlags_eq _ _ _ _
  rw [Engine.goodReply_partial _ _ hpart, Engine.storeReading_eq, hshows, hs.2.2] at hreply
  rw [← foldl_flagEvents]
  exact exec_frame_raised (evs := x.flagEvents shows) hs hone hreply hs.2.1 hs.2.2

end Sys2Proof.Machine
end

section
/-! SUPPORT. The end of a sweep window: miss accounting, and a line that stays silent (R53, R54, R59, R70, R71). -/

namespace Sys2Proof.Machine

/-! ## A cell that missed a sweep (R70, R71) -/

/-- The record of a cell that missed a sweep: one miss more, up to 3, and SENSOR_LOST as it is raised to 3. -/
def Cell.missed (x : Cell) : Cell :=
  { x with misses := min 3 (x.misses + 1), flags := if x.misses = 2 then x.flags ||| 0x10 else x.flags }

/-- The events of a cell that missed a sweep. -/
def Cell.missEvents (x : Cell) : List Event := if x.misses = 2 then x.flagEvents cfLost else []

theorem Engine.missCell_eq (e : Engine) (g : StringId) (q : Position) :
    e.missCell g q = { e.putCell g q (e.cell g q).missed with raised := e.raised ++ (e.cell g q).missEvents } := by
  by_cases h : (e.cell g q).misses = 2
  · simp only [Engine.missCell, Cell.missed, Cell.missEvents, if_pos h, Engine.flagCell_eq, Engine.cell_putCell_same,
      Engine.putCell_putCell]
    rfl
  · simp only [Engine.missCell, Cell.missed, Cell.missEvents, if_neg h, List.append_nil]
    rfl

theorem Engine.cell_missCell (e : Engine) (g h : StringId) (q j : Position) :
    (e.missCell g q).cell h j = if h = g ∧ j = q then (e.cell h j).missed else e.cell h j := by
  rw [Engine.missCell_eq]
  by_cases hq : h = g ∧ j = q
  · obtain ⟨rfl, rfl⟩ := hq
    rw [if_pos ⟨rfl, rfl⟩]
    exact e.cell_putCell_same h j _
  · rw [if_neg hq]
    exact e.cell_putCell_other _ hq

/-! ## The cells of a string, and the strings (R70) -/

/-- The census cells of a string that miss a sweep. -/
def Engine.missingCells (e : Engine) (missing : AddrSet) (g : StringId) : List Position :=
  positionsOf (missing.get g &&& (e.str g).censusSet)

/-- A sweep's miss accounting of one string. -/
def Engine.missString (missing : AddrSet) (e : Engine) (g : StringId) : Engine :=
  if (e.str g).census = .established then (e.missingCells missing g).foldl (fun e q => e.missCell g q) e else e

theorem Engine.missAccounting_eq (e : Engine) (missing : AddrSet) :
    e.missAccounting missing = allStrings.foldl (Engine.missString missing) e := rfl

/-- Cells of one string that miss a sweep, each once: those, and no other cell. -/
theorem Engine.cell_missCells (g h : StringId) (j : Position) {l : List Position} (hl : l.Nodup) (e : Engine) :
    (l.foldl (fun e q => e.missCell g q) e).cell h j = if h = g ∧ j ∈ l then (e.cell h j).missed else e.cell h j := by
  induction l generalizing e with
  | nil => simp
  | cons q l ih =>
    obtain ⟨hq, hl⟩ := List.nodup_cons.mp hl
    rw [List.foldl_cons, ih hl, Engine.cell_missCell]
    by_cases hj : h = g ∧ j = q
    · obtain ⟨rfl, rfl⟩ := hj
      simp [hq]
    · have hmem : (h = g ∧ j ∈ q :: l) ↔ (h = g ∧ j ∈ l) := by
        rw [List.mem_cons]; tauto
      simp only [hmem, if_neg hj]

/-- The change is one of cell records alone, and hands CELL_FLAG alone, however often (R69). -/
def Engine.CellsOnly (e e' : Engine) : Prop :=
  ∃ cells k, e' = { e with cells := cells, raised := e.raised ++ List.replicate k .cellFlag }

theorem Engine.CellsOnly.refl (e : Engine) : e.CellsOnly e := ⟨e.cells, 0, by simp⟩

theorem Engine.CellsOnly.trans {e e' e'' : Engine} (h : e.CellsOnly e') (h' : e'.CellsOnly e'') : e.CellsOnly e'' := by
  obtain ⟨cells, j, rfl⟩ := h
  obtain ⟨cells', k, rfl⟩ := h'
  refine ⟨cells', j + k, ?_⟩
  rw [List.replicate_add, ← List.append_assoc]

theorem Engine.CellsOnly.foldl {α : Type} {f : Engine → α → Engine} (hf : ∀ (e : Engine) x, e.CellsOnly (f e x)) (l : List α)
    (e : Engine) : e.CellsOnly (l.foldl f e) := by
  induction l generalizing e with
  | nil => exact .refl e
  | cons x l ih => exact (hf e x).trans (ih (f e x))

theorem Engine.missCell_cellsOnly (e : Engine) (g : StringId) (q : Position) : e.CellsOnly (e.missCell g q) := by
  have hevents : ∃ k, (e.cell g q).missEvents = List.replicate k .cellFlag := by
    unfold Cell.missEvents Cell.flagEvents
    split
    · split
      · exact ⟨1, rfl⟩
      · exact ⟨0, rfl⟩
    · exact ⟨0, rfl⟩
  obtain ⟨k, hk⟩ := hevents
  exact ⟨_, k, by rw [Engine.missCell_eq, hk]; rfl⟩

theorem Engine.missString_cellsOnly (missing : AddrSet) (e : Engine) (g : StringId) :
    e.CellsOnly (e.missString missing g) := by
  unfold Engine.missString
  split
  · exact .foldl (fun e q => e.missCell_cellsOnly g q) _ e
  · exact .refl e

theorem Engine.missAccounting_cellsOnly (e : Engine) (missing : AddrSet) : e.CellsOnly (e.missAccounting missing) :=
  .foldl (Engine.missString_cellsOnly missing) allStrings e

theorem Engine.CellsOnly.str {e e' : Engine} (h : e.CellsOnly e') (g : StringId) : e'.str g = e.str g := by
  obtain ⟨cells, k, rfl⟩ := h
  rfl

/-- The cell of `h` at `j` is a census cell of an ESTABLISHED string and misses the sweep (R70). -/
abbrev Engine.isMissed (e : Engine) (missing : AddrSet) (h : StringId) (j : Position) : Prop :=
  (e.str h).census = .established ∧ (missing.get h).getLsbD j.val = true ∧ (e.str h).censusSet.getLsbD j.val = true

theorem Engine.mem_missingCells {e : Engine} {missing : AddrSet} {g : StringId} {j : Position} :
    j ∈ e.missingCells missing g ↔ (missing.get g).getLsbD j.val = true ∧ (e.str g).censusSet.getLsbD j.val = true := by
  rw [Engine.missingCells, mem_positionsOf, BitVec.getLsbD_and, Bool.and_eq_true]

theorem nodup_positionsOf (s : PosSet) : (positionsOf s).Nodup := List.Nodup.filter _ (by decide)

theorem Engine.cell_missString (missing : AddrSet) (e : Engine) (g h : StringId) (j : Position) :
    (e.missString missing g).cell h j
      = if h = g ∧ e.isMissed missing h j then (e.cell h j).missed else e.cell h j := by
  unfold Engine.missString
  split
  next hest =>
    rw [Engine.cell_missCells g h j (l := e.missingCells missing g) (nodup_positionsOf _)]
    refine if_congr (and_congr_right fun hg => ?_) rfl rfl
    subst hg
    rw [Engine.mem_missingCells, Engine.isMissed]
    exact (and_iff_right hest).symm
  next hest =>
    rw [if_neg]
    rintro ⟨rfl, hmissed⟩
    exact hest hmissed.1

theorem Engine.cell_missStrings (missing : AddrSet) (h : StringId) (j : Position) {l : List StringId} (hl : l.Nodup)
    (e : Engine) : (l.foldl (Engine.missString missing) e).cell h j
      = if h ∈ l ∧ e.isMissed missing h j then (e.cell h j).missed else e.cell h j := by
  induction l generalizing e with
  | nil => simp
  | cons g l ih =>
    obtain ⟨hg, hl⟩ := List.nodup_cons.mp hl
    have hstr := (e.missString_cellsOnly missing g).str h
    rw [List.foldl_cons, ih hl, Engine.cell_missString]
    simp only [Engine.isMissed, hstr, List.mem_cons]
    by_cases hhg : h = g
    · subst hhg
      simp [hg]
    · simp [hhg]

/-- Miss accounting, cell by cell (R70, R71). -/
theorem Engine.cell_missAccounting (e : Engine) (missing : AddrSet) (g : StringId) (q : Position) :
    (e.missAccounting missing).cell g q =
      if (e.str g).census = .established ∧ (missing.get g).getLsbD q.val = true
          ∧ (e.str g).censusSet.getLsbD q.val = true then (e.cell g q).missed
      else e.cell g q := by
  rw [Engine.missAccounting_eq, Engine.cell_missStrings missing g q (by decide) e]
  exact if_congr (and_iff_right (mem_allStrings g)) rfl rfl

/-! ## The line has no part in it -/

theorem Engine.missCell_modLine (f : Line → Line) (e : Engine) (g : StringId) (q : Position) :
    (e.modLine f).missCell g q = (e.missCell g q).modLine f := by
  rw [Engine.missCell_eq, Engine.missCell_eq]
  rfl

theorem Engine.missString_modLine (missing : AddrSet) (f : Line → Line) (e : Engine) (g : StringId) :
    (e.modLine f).missString missing g = (e.missString missing g).modLine f := by
  by_cases h : (e.str g).census = .established
  · rw [Engine.missString, Engine.missString, if_pos h, if_pos (show ((e.modLine f).str g).census = .established from h)]
    exact List.foldl_hom (fun e : Engine => e.modLine f) fun e q => Engine.missCell_modLine f e g q
  · rw [Engine.missString, Engine.missString, if_neg h, if_neg (show ¬ ((e.modLine f).str g).census = .established from h)]

theorem Engine.missAccounting_modLine (missing : AddrSet) (f : Line → Line) (e : Engine) :
    (e.modLine f).missAccounting missing = (e.missAccounting missing).modLine f :=
  List.foldl_hom (fun e : Engine => e.modLine f) (Engine.missString_modLine missing f)

/-! ## The end of the window (R53, R54) -/

/-- A set without addresses. -/
theorem AddrSet.none_iff {a : AddrSet} : a.none = true ↔ ∀ g, a.get g = 0 := by
  simp only [AddrSet.none, List.all_eq_true, beq_iff_eq, Vector.mem_toList_iff, Vector.mem_iff_getElem]
  exact ⟨fun h g => h _ ⟨g.val, g.isLt, rfl⟩, fun h x ⟨i, hi, hx⟩ => hx ▸ h ⟨i, hi⟩⟩

/-- A set with an address. -/
theorem AddrSet.none_eq_false {a : AddrSet} {g : StringId} {k : Nat} (h : (a.get g).getLsbD k = true) :
    a.none = false := by
  refine Bool.eq_false_iff.mpr fun hnone => ?_
  rw [AddrSet.none_iff.mp hnone g] at h
  exact absurd (BitVec.getLsbD_zero.symm.trans h) Bool.false_ne_true

theorem Engine.windowEnd_open {e : Engine} (p : Profile) {w : Sweep} {k : Nat} (hk : e.line.window = some k)
    (hw : e.line.sweep = some w) : e.windowEnd p = e.endSweep p w := by
  simp only [Engine.windowEnd, hk, hw]

/-- A sweep that drew a reply is delivered, and leaves the silent count (R53, R54). -/
theorem Engine.endSweep_replied (e : Engine) (p : Profile) {w : Sweep} (h : w.replied.none = false) :
    e.endSweep p w = e.deliverSweep w false := by
  simp [Engine.endSweep, h]

/-- A fourth sweep in a row that expects replies and draws none faults the line (R54, R59). -/
theorem Engine.endSweep_silent {e : Engine} (p : Profile) {w : Sweep} (hr : w.replied.none = true)
    (hx : w.expected.none = false) (h : e.line.silent = 3) :
    e.endSweep p w = ({ e with line := { e.line with silent := 4 } } : Engine).faultLine p .silent := by
  simp only [Engine.endSweep, Engine.modLine, hr, hx, h, Bool.not_false, Bool.and_self, Bool.true_and, Bool.or_true,
    decide_true, if_true]
  rfl

/-- The line once its sweep has been counted and delivered (R53). -/
def Line.delivered (l : Line) : Line := { l with sweep := none, window := none, finishing := true, trial := false }

theorem Line.delivered_idle {l : Line} (hn : l.finishing = false) (k : Nat) :
    { l.delivered with finishing := false, idle := some k }
      = { l with sweep := none, window := none, trial := false, idle := some k } := by
  simp only [Line.delivered, hn]

/-- A withdrawn sweep is counted and given to no one, no trial being pending (R48, R53). -/
theorem Engine.deliverSweep_withdrawn {e : Engine} {w : Sweep} (silent : Bool) (hw : w.withdrawn = true)
    (ht : e.line.trial = false) :
    e.deliverSweep w silent
      = ((e.missAccounting (w.expected.less w.replied)).modLine Line.delivered).hand [.sweepDone silent] := by
  have hline : e.modLine (fun l => { l with
      sweep := none, window := none, finishing := true, trial := if w.replied.none then l.trial else false })
      = e.modLine Line.delivered := by
    simp only [Engine.modLine, Line.delivered, ht, ite_self]
  rw [← Engine.missAccounting_modLine, ← hline]
  simp only [Engine.deliverSweep, hw, ht, Bool.false_and, Bool.false_eq_true, if_false, if_true, List.nil_append]

/-- Once its sweep has been delivered, an ACTIVE line with nothing listed starts its idle timer (R46, R53). -/
theorem Engine.afterSweep_idle {e : Engine} (p : Profile) (ha : e.line.state = .active) (hw : e.line.sweep = none)
    (hd : e.line.sending = .nothing) (hl : e.line.list = []) :
    e.afterSweep p false
      = { e with line := { e.line with finishing := false, idle := some (fieldNat p fldLineIdle) } } := by
  let ended : Engine := { e with line := { e.line with finishing := false } }
  have hfree : ended.line.free = true := by simp [ended, Line.free, ha, hw, hd]
  exact Engine.nextSweep_idle (e := ended) p hfree hl

/-- The window of a withdrawn sweep that drew a reply ends, nothing else being listed: the misses are counted, and the
line starts its idle timer. -/
theorem Engine.leads_windowEnd_withdrawn (p : Profile) {e : Engine} {w : Sweep} {k : Nat} (hk : e.line.window = some k)
    (hsweep : e.line.sweep = some w) (hw : w.withdrawn = true) (hr : w.replied.none = false) (hl : e.line.list = [])
    (ht : e.line.trial = false) (hn : e.line.finishing = false) (ha : e.line.state = .active)
    (hd : e.line.sending = .nothing) :
    (e.windowEnd p).Leads p 1 { e.missAccounting (w.expected.less w.replied) with
      line := { e.line with sweep := none, window := none, trial := false, idle := some (fieldNat p fldLineIdle) } } := by
  have hcounted := e.missAccounting_cellsOnly (w.expected.less w.replied)
  rw [Engine.windowEnd_open p hk hsweep, Engine.endSweep_replied e p hr, Engine.deliverSweep_withdrawn false hw ht,
    ← Line.delivered_idle hn]
  generalize e.missAccounting (w.expected.less w.replied) = counted at hcounted ⊢
  obtain ⟨cells, j, rfl⟩ := hcounted
  exact .step (Engine.afterSweep_idle p ha rfl hd hl) (.refl p _)

/-! ## Events handed more than once -/

theorem Alert.capture_capture (a : Alert) (ev : Event) : (a.capture ev).capture ev = a.capture ev := by
  by_cases h : a.captures ev = true
  · have hagain : (a.capture ev).captures ev = true := by
      rw [Alert.captures, (a.capture_keeps ev).2.1]
      exact h
    rw [Alert.capture, if_pos hagain, Alert.capture, if_pos h]
    simp [Alert.refresh, BitVec.or_assoc]
  · have hno : a.capture ev = a := if_neg h
    rw [hno, hno]

theorem foldl_capture_replicate (a : Alert) (ev : Event) (k : Nat) :
    (List.replicate k ev).foldl Alert.capture a = if List.replicate k ev = [] then a else a.capture ev := by
  induction k generalizing a with
  | zero => rfl
  | succ k ih =>
    rw [List.replicate_succ, List.foldl_cons, ih, if_neg (List.cons_ne_nil _ _), Alert.capture_capture, ite_self]

/-- The fourth silent sweep of a line whose sweep is withdrawn, nothing else being listed: the line is FAULTED. -/
theorem Engine.windowEnd_faults {e : Engine} (p : Profile) {w : Sweep} {k : Nat} (hk : e.line.window = some k)
    (hsweep : e.line.sweep = some w) (hw : w.withdrawn = true) (hr : w.replied.none = true)
    (hx : w.expected.none = false) (h : e.line.silent = 3) (hl : e.line.list = []) :
    e.windowEnd p = { e with
      line := ({ e.line with silent := 4 } : Line).faulted p .silent, raised := e.raised ++ [.lineFault] } := by
  rw [Engine.windowEnd_open p hk hsweep, Engine.endSweep_silent p hr hx h]
  refine Engine.faultLine_unserved (e := { e with line := { e.line with silent := 4 } }) p .silent hl fun v hv => ?_
  rw [← Option.some_inj.mp (hsweep.symm.trans hv)]
  exact hw

/-- Settles O49: the end of a window by what the sweep drew, and miss accounting cell by cell. -/
theorem windowEndCountsMissesOrFaults : Obligations.WindowEndCountsMissesOrFaults := by
  unfold Obligations.WindowEndCountsMissesOrFaults
  refine ⟨fun s w k hs hk hw hwithdrawn hl ht hn ha hd => ⟨?_, ?_⟩, Engine.cell_missAccounting⟩
  · intro ⟨g, q, hreply⟩ counted
    have hcounted : s.eng.CellsOnly counted := s.eng.missAccounting_cellsOnly _
    have hleads : (s.eng.windowEnd s.profile).Leads s.profile 1 { counted with line := { s.eng.line with
        sweep := none, window := none, trial := false, idle := some (fieldNat s.profile fldLineIdle) } } :=
      Engine.leads_windowEnd_withdrawn s.profile hk hw hwithdrawn (AddrSet.none_eq_false hreply) hl ht hn ha hd
    clear_value counted
    obtain ⟨cells, j, rfl⟩ := hcounted
    rw [hs.2.2, List.nil_append] at hleads ⊢
    rw [← foldl_capture_replicate]
    exact congrArg Host.Outcome.next
      (State.whenAwake_raised (f := fun e => e.windowEnd s.profile) hs hleads (by decide) hs.2.1 hs.2.2)
  · intro hnone ⟨g, hexp⟩ h3
    have hfault := Engine.windowEnd_faults s.profile hk hw hwithdrawn (AddrSet.none_iff.mpr hnone)
      (Bool.eq_false_iff.mpr fun hx => hexp (AddrSet.none_iff.mp hx g)) h3 hl
    rw [hs.2.2] at hfault
    exact congrArg Host.Outcome.next (State.whenAwake_raised (f := fun e => e.windowEnd s.profile) (evs := [.lineFault]) hs
      (.of_eq hfault) (by decide) hs.2.1 hs.2.2)

end Sys2Proof.Machine
end

section
/-! SUPPORT. The timers of a round's phase that end its work into MATCH, make a HOLD sweep due, or verify a fill, and the
end of a coast (R123 to R127, R148, R157 to R159). -/

namespace Sys2Proof.Machine

/-! ## The limits of RAMP and HOLD (R123, R126, R127) -/

/-- The work on a string ends, and MATCH is entered with the charger at the load bus (R48, R127). -/
theorem Engine.endIntoMatch_holder {e : Engine} {c : CtxId} (r : Round) (o : Outcome)
    (h : e.claims.charger = some c) :
    e.endIntoMatch c r o =
      (let m : Round := { r with
         phase := .matching, phaseStart := e.clock, pendingOutcome := some o, perCell := 0, holdDue := false }
       { (e.withdrawSweep c).putRound c m with
         charger := { e.charger with setpoint := min 70000 (latestLoad e.latest) } }) := if_pos h

theorem Engine.rampTimeout_reached {e : Engine} (p : Profile) {c : CtxId} {r : Round} (hc : e.ctx c = some r)
    (hp : r.phase = .ramp) (hdue : (e.clock - after r.phaseStart (60 * fieldNat p fldRamp)).toNat < 2 ^ 31) :
    e.rampTimeout p true c = e.endIntoMatch c r .rampTimeout :=
  Engine.phaseTimer_reached (deadline := fun r => after r.phaseStart (60 * fieldNat p fldRamp)) true _ hc hp hdue

theorem Engine.holdTimeLimit_reached {e : Engine} {c : CtxId} {r : Round} (hc : e.ctx c = some r) (hp : r.phase = .hold)
    (hdue : (e.clock - after r.phaseStart (60 * maxHold (e.slot r.slot))).toNat < 2 ^ 31) :
    e.holdTimeLimit true c = e.judgeHold c (r.holdUntil e.clock) :=
  Engine.phaseTimer_reached (deadline := fun r => after r.phaseStart (60 * maxHold (e.slot r.slot))) true
    (fun r e => e.judgeHold c (r.holdUntil e.clock)) hc hp hdue

/-- Settles O53: the timer that is reached, then the end it gives. -/
theorem limitsEndIntoMatch : Obligations.LimitsEndIntoMatch := by
  unfold Obligations.LimitsEndIntoMatch
  intro s c r g hs ⟨hc, _, hcharger, _, _⟩ matching
  refine ⟨fun hp hdue => ?_, fun hp hdue => ?_⟩
  · have hramp := (Engine.rampTimeout_reached s.profile hc hp hdue).trans (Engine.endIntoMatch_holder r _ hcharger)
    exact congrArg Host.Outcome.next (State.whenAwake_quiet hs (.of_eq hramp) (by decide) hs.2.1 hs.2.2)
  · intro elapsed hmax cap
    have hhold := (Engine.holdTimeLimit_reached hc hp hdue).trans ((Engine.judgeHold_ends (.inr hmax)).trans
      (Engine.endIntoMatch_holder (r.holdUntil s.eng.clock) _ hcharger))
    exact congrArg Host.Outcome.next (State.whenAwake_quiet hs (.of_eq hhold) (by decide) hs.2.1 hs.2.2)

/-! ## The hold interval (R124) -/

theorem Engine.holdInterval_reached {e : Engine} (p : Profile) {c : CtxId} {r : Round} (hc : e.ctx c = some r)
    (hp : r.phase = .hold) (hdue : (e.clock - after r.holdTimer (fieldNat p fldHoldInterval)).toNat < 2 ^ 31) :
    e.holdInterval p true c = e.dueHoldSweep p c { r with holdTimer := e.clock } :=
  Engine.phaseTimer_reached (deadline := fun r => after r.holdTimer (fieldNat p fldHoldInterval)) true
    (fun r e => e.dueHoldSweep p c { r with holdTimer := e.clock }) hc hp hdue

theorem Engine.dueHoldSweep_waits {e : Engine} (p : Profile) {c : CtxId} (r : Round) (h : e.hasRequest c = true) :
    e.dueHoldSweep p c r = e.putRound c { r with holdDue := true } := if_pos h

/-- A context that enters a phase of a sweep requests one of its current string, here on a WAKING line (R47). -/
theorem Engine.putRound_sweepCurrent {e : Engine} (p : Profile) (c : CtxId) {r : Round} {g : StringId} (u : Purpose)
    (hg : r.cur = some g) (hl : e.line.state = .waking) :
    (e.putRound c r).sweepCurrent p c r u = e.withRequest c r (oneString g) u := by
  simp only [Engine.sweepCurrent, hg]
  exact Engine.putRound_requestSweep p c r _ u hl

theorem Engine.dueHoldSweep_requests {e : Engine} (p : Profile) {c : CtxId} {r : Round} {g : StringId}
    (h : e.hasRequest c = false) (hg : r.cur = some g) (hl : e.line.state = .waking) :
    e.dueHoldSweep p c r = e.withRequest c { r with holdDue := false } (oneString g) .hold := by
  rw [Engine.dueHoldSweep, h, if_neg Bool.false_ne_true]
  exact Engine.putRound_sweepCurrent p c (r := { r with holdDue := false }) .hold hg hl

/-- Settles O54, by whether the context has a request. -/
theorem holdIntervalMakesASweepDue : Obligations.HoldIntervalMakesASweepDue := by
  unfold Obligations.HoldIntervalMakesASweepDue
  intro s c r g hs ⟨hc, hg, _, _, _⟩ hp hdue
  have hreached := Engine.holdInterval_reached s.profile hc hp hdue
  refine ⟨fun h => ?_, fun h hl => ?_⟩
  · have hwaits := hreached.trans (Engine.dueHoldSweep_waits s.profile _ h)
    exact congrArg Host.Outcome.next (State.whenAwake_quiet hs (.of_eq hwaits) (by decide) hs.2.1 hs.2.2)
  · have hrequests := hreached.trans (Engine.dueHoldSweep_requests s.profile h hg hl)
    exact congrArg Host.Outcome.next (State.whenAwake_quiet hs (.of_eq hrequests) (by decide) hs.2.1 hs.2.2)

/-! ## The end of a coast, and the verify delay (R148, R157 to R159) -/

theorem Engine.coastEnded_idle {e : Engine} (active : Bool) (h : e.water.coast = none) : e.coastEnded active = e := by
  simp only [Engine.coastEnded, h]

/-- The coast ends as the clock reaches its end (R148). -/
theorem Engine.coastEnded_reached {e : Engine} {k : StringId} {d : Clock} (active : Bool)
    (h : e.water.coast = some (k, d)) (hdue : (e.clock - d).toNat < 2 ^ 31) :
    e.coastEnded active = ({ e with water := { e.water with coast := none } } : Engine).coastOver := by
  simp only [Engine.coastEnded, h, Engine.due_reached active hdue]

/-- The holder of the path goes on from the end of its coast (R157). -/
theorem Engine.coastOver_holder {e : Engine} {c : CtxId} {r : Round} (hw : e.claims.water = some c)
    (hc : e.ctx c = some r) (hp : r.phase = .prime ∨ r.phase = .fill) (hco : r.coasting = true) :
    e.coastOver = e.afterCoast c r := by
  have hholder : e.waterHolder = some (c, r) := by simp only [Engine.waterHolder, hw, hc, Option.map_some]
  simp only [Engine.coastOver, hholder]
  exact if_pos ⟨hp, hco⟩

/-- A watered string is to be verified, where VERIFY is set and no cause has ended the order (R157, R158). -/
theorem Engine.afterCoast_verifies {e : Engine} (c : CtxId) {r : Round} (ho : r.pendingOutcome = some .watered)
    (hv : verifyFlag (e.slot r.slot) = true) (hf : r.firstCause = none) :
    e.afterCoast c r = e.putRound c { r.enter .verifyWait e.clock with coasting := false } := by
  have hnone : ¬ r.firstCause.isSome = true := by rw [hf]; decide
  rw [Engine.afterCoast, ho]
  exact (if_pos hv).trans (if_neg hnone)

theorem Engine.verifyExpiry_reached {e : Engine} (p : Profile) {c : CtxId} {r : Round} {g : StringId}
    (hc : e.ctx c = some r) (hg : r.cur = some g) (hp : r.phase = .verifyWait) (hl : e.line.state = .waking)
    (hdue : (e.clock - after r.phaseStart (fieldNat p fldVerify)).toNat < 2 ^ 31) :
    e.verifyExpiry p true c = e.withRequest c (r.enter .verify e.clock) (oneString g) .verify := by
  refine (Engine.phaseTimer_reached (deadline := fun r => after r.phaseStart (fieldNat p fldVerify)) true _ hc hp
    hdue).trans ?_
  exact Engine.putRound_sweepCurrent p c (r := r.enter .verify e.clock) .verify hg hl

/-- Settles O60: the coast that ends, the coast that does not run, and the verify delay. -/
theorem coastEndsIntoVerification : Obligations.CoastEndsIntoVerification := by
  unfold Obligations.CoastEndsIntoVerification
  intro s c r g hs hc hg
  refine ⟨fun k d hcoast hdue hw hp hco ho hv hf => ?_, fun hcoast => ?_, fun hp hl hdue => ?_⟩
  · let stilled : Engine := { s.eng with water := { s.eng.water with coast := none } }
    have hover : stilled.coastOver = stilled.afterCoast c r := Engine.coastOver_holder hw hc (.inr hp) hco
    have hends := (Engine.coastEnded_reached true hcoast hdue).trans
      (hover.trans (Engine.afterCoast_verifies (e := stilled) c ho hv hf))
    exact congrArg Host.Outcome.next (State.whenAwake_quiet hs (.of_eq hends) (by decide) hs.2.1 hs.2.2)
  · exact congrArg Host.Outcome.next (State.whenAwake_unchanged hs (Engine.coastEnded_idle true hcoast))
  · have hverifies := Engine.verifyExpiry_reached s.profile hc hg hp hl hdue
    exact congrArg Host.Outcome.next (State.whenAwake_quiet hs (.of_eq hverifies) (by decide) hs.2.1 hs.2.2)

end Sys2Proof.Machine
end

section
/-! SUPPORT. A passing CONFIRM_PROFILE (R44, R111, R175, R179). -/

namespace Sys2Proof.Machine

/-- A CONFIRM_PROFILE is the taking of the confirmation and nothing else. -/
theorem exec_confirmProfile {s : State} {a : BitVec 16} (hs : s.linkUp) (ha : low13 a = 0x0004) :
    exec (.confirmProfile ⟨a, [0x03]⟩) s = .next ((s.echo a).takeConfirm.ended false) := by
  have hsends : Sends (.confirmProfile ⟨a, [0x03]⟩) ⟨a, [0x03]⟩ := by simp [Sends]
  have htaken : (Commit.start (s.echo a)).apply (low13 a, 0x03) = (Commit.start (s.echo a)).onState State.takeConfirm := by
    rw [ha]; rfl
  rw [exec_write_one hsends hs (fun _ => by decide),
    State.commit_one_kept _ _ _ _ (outside_slots (by omega)).1 htaken]

/-- The confirmation that finds every field in order passes (R179). -/
theorem State.takeConfirm_passes {s : State} (h : profileReject s.profile = none) : s.takeConfirm = s.confirmPass := by
  simp only [State.takeConfirm, h]

/-- Every record with its string's cells-fitted copy. -/
theorem Engine.copyCells_eq (e : Engine) (p : Profile) : e.copyCells p = { e with
    strings := modRecords (fun g x => { x with cellsCopy := profileByte p (0x02 + g.val) }) allStrings e.strings } :=
  Engine.modStrings_eq _ _ e

/-- An OFF line goes to ASLEEP; every other line stays (R44). -/
theorem Engine.wakeFromOff_eq (e : Engine) : e.wakeFromOff = { e with
    line := { e.line with state := if e.line.state = .off then .asleep else e.line.state } } := by
  by_cases h : e.line.state = .off
  · rw [if_pos h]
    exact if_pos h
  · rw [if_neg h]
    exact if_neg h

/-- The blocks once a confirmation has passed: the records with their copies, and the line no longer OFF. -/
def Engine.confirmed (e : Engine) (p : Profile) : Engine :=
  { e with
    strings := modRecords (fun g x => { x with cellsCopy := profileByte p (0x02 + g.val) }) allStrings e.strings,
    line := { e.line with state := if e.line.state = .off then .asleep else e.line.state } }

theorem State.confirmPass_eq (s : State) : s.confirmPass =
    { s with profile := putProfileByte s.profile 0x3F 0x01, link := { s.link with control := 0x80 },
             eng := s.eng.confirmed s.profile } := by
  have heng : (s.eng.copyCells s.profile).wakeFromOff = s.eng.confirmed s.profile := by
    rw [Engine.wakeFromOff_eq, Engine.copyCells_eq]
    rfl
  rw [← heng]
  rfl

theorem Engine.str_confirmed (e : Engine) (p : Profile) (g : StringId) :
    (e.confirmed p).str g = { e.str g with cellsCopy := profileByte p (2 + g.val) } :=
  (get_modRecords _ (by decide) e.strings g).trans (if_pos (mem_allStrings g))

/-- Settles O14: the confirmation that passes, block by block. -/
theorem confirmationPasses : Obligations.ConfirmationPasses := by
  unfold Obligations.ConfirmationPasses
  intro s a hs ha hpass
  have hexec := exec_confirmProfile hs ha
  rw [State.takeConfirm_passes (s := s.echo a) hpass, State.confirmPass_eq] at hexec
  exact ⟨_, hexec, rfl, rfl, rfl, rfl, s.eng.str_confirmed s.profile, rfl, rfl, rfl, rfl, rfl, rfl, rfl, rfl⟩

end Sys2Proof.Machine
end

section
/-! SUPPORT. A PROFILE_WRITE whose byte is kept, and what a change of a cells-fitted leads to (R77, R111, R178). -/

namespace Sys2Proof.Machine

/-! ## Bytes of the site profile (R178) -/

/-- The address of a profile byte. -/
theorem isProfileAddr_add {k : Nat} (hk : k < 64) : isProfileAddr (0x0040 + k) = true := by
  simp only [isProfileAddr, Bool.and_eq_true, decide_eq_true_eq]
  omega

/-- A byte of the site profile is written or dropped, by the profile's own rule. -/
theorem Commit.apply_profile (m : Commit) {k : Nat} (hk : k < 64) (v : Byte) :
    m.apply (0x0040 + k, v) = if m.st.keepsProfile k then m.onState fun s => s.writeProfile k v else m.drop := by
  have hstatus : isStatusAddr (0x0040 + k) = false := by
    simp only [isStatusAddr, Bool.or_eq_false_iff, beq_eq_false_iff_ne]; omega
  have h3 : 0x0040 + k ≠ 0x0003 := by omega
  have h4 : 0x0040 + k ≠ 0x0004 := by omega
  have h5 : 0x0040 + k ≠ 0x0005 := by omega
  have h6 : 0x0040 + k ≠ 0x0006 := by omega
  have henables : ¬ (0x0040 + k = 0x0014 ∨ 0x0040 + k = 0x0015) := by omega
  simp only [Commit.apply, h3, h4, h5, h6, hstatus, henables, isProfileAddr_add hk, Nat.add_sub_cancel_left, if_false,
    if_true, Bool.false_eq_true]

theorem State.keepsProfile_iff {s : State} {k : Nat} :
    s.keepsProfile k = true ↔ s.eng.noOrders = true ∧ s.link.lock ≠ 0xA5 ∧ k ≠ 0x3F := by
  simp only [State.keepsProfile, Bool.and_eq_true, bne_iff_ne, ne_eq, and_assoc]

/-- A PROFILE_WRITE whose byte is kept is the writing of that byte and nothing else. -/
theorem exec_profileWrite_kept {s : State} {a : BitVec 16} {k : Nat} (v : Byte) (hs : s.linkUp) (hk : k < 64)
    (ha : low13 a = 0x0040 + k) (hkeeps : s.keepsProfile k = true) :
    exec (.profileWrite ⟨a, [v]⟩) s = .next (((s.echo a).writeProfile k v).ended false) := by
  have hsends : Sends (.profileWrite ⟨a, [v]⟩) ⟨a, [v]⟩ := by simp [Sends]
  have hkept : (Commit.start (s.echo a)).apply (low13 a, v)
      = (Commit.start (s.echo a)).onState fun s => s.writeProfile k v := by
    rw [ha, Commit.apply_profile _ hk]
    exact if_pos hkeeps
  rw [exec_write_one hsends hs (by omega), State.commit_one_kept _ _ _ _ (outside_slots (by omega)).1 hkept]

/-- The profile once one of its bytes has changed: that byte, and the confirmed flag clear (R178). -/
def Profile.changed (p : Profile) (k : Nat) (v : Byte) : Profile := putProfileByte (putProfileByte p k v) 0x3F 0x00

/-- A kept byte that differs from the one it replaces is written, and the blocks act on it. -/
theorem State.writeProfile_change {s : State} {k : Nat} {v : Byte} (h : profileByte s.profile k ≠ v) :
    s.writeProfile k v = { s with profile := s.profile.changed k v }.act
      fun e => e.profileChanged s.profile (s.profile.changed k v) k v := if_neg h

/-! ## A change of a cells-fitted (R77) -/

/-- The change of byte 2 and on is a change of a string's cells-fitted. -/
theorem Engine.profileChanged_cells (e : Engine) (old new : Profile) (g : StringId) (v : Byte) :
    e.profileChanged old new (2 + g.val) v = e.cellsChanged g v := by
  have hg := g.isLt
  have hstring : (⟨2 + g.val - 2, by omega⟩ : StringId) = g := Fin.ext (Nat.add_sub_cancel_left 2 g.val)
  rw [Engine.profileChanged, if_neg (by omega), dif_pos (by omega), hstring]

/-- A record with its string's cells-fitted copy written, and its census lost. -/
def StringRec.uncounted (x : StringRec) (v : Byte) : StringRec :=
  { x with cellsCopy := v, census := .unknown, censusSet := 0 }

/-- The record is written, and the loss of the census reported to the board. -/
theorem Engine.cellsChanged_eq (e : Engine) (g : StringId) (v : Byte) :
    e.cellsChanged g v = (e.putStr g ((e.str g).uncounted v)).hand [.censusLost g] := by
  simp only [Engine.cellsChanged, Engine.loseCensus, Engine.putCensus, Engine.modStr, Engine.str_putStr_same,
    Engine.putStr_putStr, StringRec.uncounted]

/-- Where no order waits, the report of a lost census settles nothing (R77). -/
theorem Engine.leads_censusLost_empty (p : Profile) {e : Engine} (g : StringId) (hq : e.board.queue = []) :
    (e.hand [.censusLost g]).Leads p 1 e := by
  have hnone : e.needsCensus g = none := by rw [Engine.needsCensus, hq]; rfl
  exact .step (by simp only [Engine.work, Engine.hand_nil, Engine.censusReport, hnone]) (.refl p e)

/-- Settles O12: the byte is kept and is a change, and the report it leads to finds no order waiting. -/
theorem cellsFittedChangeLosesTheCensus : Obligations.CellsFittedChangeLosesTheCensus := by
  unfold Obligations.CellsFittedChangeLosesTheCensus
  intro s a v g hs hcalm hno hq hlock ha hne
  have hg := g.isLt
  have haddr : low13 a = 0x0040 + (2 + g.val) := by omega
  have hkeeps : s.keepsProfile (2 + g.val) = true := State.keepsProfile_iff.mpr ⟨hno, hlock, by omega⟩
  let new := s.profile.changed (2 + g.val) v
  have hchange : s.eng.profileChanged s.profile new (2 + g.val) v
      = (s.eng.putStr g ((s.eng.str g).uncounted v)).hand [.censusLost g] :=
    (s.eng.profileChanged_cells _ _ g v).trans (s.eng.cellsChanged_eq g v)
  have hleads : (s.eng.profileChanged s.profile new (2 + g.val) v).Leads new 1
      (s.eng.putStr g ((s.eng.str g).uncounted v)) := hchange ▸ Engine.leads_censusLost_empty new g hq
  have hact := State.act_leads_quiet (s := { s.echo a with profile := new })
    (f := fun e => e.profileChanged s.profile new (2 + g.val) v) hleads (by decide) hcalm.1 hcalm.2
  rw [exec_profileWrite_kept v hs (by omega) haddr hkeeps, State.writeProfile_change (s := s.echo a) hne]
  exact congrArg (fun t : State => Host.Outcome.next (t.ended false)) hact

end Sys2Proof.Machine
end

section
/-! SUPPORT. DRY_AFTER_WATER in the cell table, and the completion of a VERIFY sweep (R72, R159). -/

namespace Sys2Proof.Machine

/-! ## DRY_AFTER_WATER is set as one update (R72) -/

/-- DRY_AFTER_WATER is set in one record of a string. -/
def Engine.setDry (g : StringId) (e : Engine) (q : Position) : Engine := e.putCell g q ((e.cell g q).setFlags cfDry)

theorem Engine.cell_setDry (e : Engine) (g k : StringId) (q j : Position) :
    (e.setDry g q).cell k j = if k = g ∧ j = q then (e.cell k j).setFlags cfDry else e.cell k j := by
  by_cases h : k = g ∧ j = q
  · obtain ⟨rfl, rfl⟩ := h
    rw [if_pos ⟨rfl, rfl⟩]
    exact e.cell_putCell_same k j _
  · rw [if_neg h]
    exact e.cell_putCell_other _ h

/-- Sticky flags that are set already stay as they are. -/
theorem Cell.setFlags_setFlags (x : Cell) (f : Byte) : (x.setFlags f).setFlags f = x.setFlags f := by
  simp only [Cell.setFlags, BitVec.or_assoc, BitVec.or_self]

/-- DRY_AFTER_WATER set at some positions of a string, however often: in those records, and in no other. -/
theorem Engine.cell_setDries (g k : StringId) (j : Position) (l : List Position) (e : Engine) :
    (l.foldl (Engine.setDry g) e).cell k j = if k = g ∧ j ∈ l then (e.cell k j).setFlags cfDry else e.cell k j := by
  induction l generalizing e with
  | nil => simp
  | cons q l ih =>
    rw [List.foldl_cons, ih, Engine.cell_setDry]
    by_cases hj : k = g ∧ j = q
    · obtain ⟨rfl, rfl⟩ := hj
      simp [Cell.setFlags_setFlags]
    · have hmem : (k = g ∧ j ∈ q :: l) ↔ (k = g ∧ j ∈ l) := by
        rw [List.mem_cons]; tauto
      simp only [hmem, if_neg hj]

/-- Nothing but the cell table changes. -/
theorem Engine.setDries_eq (g : StringId) (l : List Position) (e : Engine) :
    ∃ cells, l.foldl (Engine.setDry g) e = { e with cells := cells } := by
  induction l generalizing e with
  | nil => exact ⟨e.cells, rfl⟩
  | cons q l ih =>
    obtain ⟨cells, hrest⟩ := ih (e.setDry g q)
    exact ⟨cells, hrest⟩

/-- Setting DRY_AFTER_WATER takes it from clear to set exactly where its bit reads 0. -/
theorem Cell.gains_dry (x : Cell) : x.gains cfDry = true ↔ x.flags &&& 0x20 = 0 := by
  have hbit : cfDry = BitVec.twoPow 8 5 := by decide
  have hmask : (0x20 : Byte) = BitVec.twoPow 8 5 := by decide
  have hset : BitVec.twoPow 8 5 ≠ 0 := by decide
  have hnot : (~~~x.flags).getLsbD 5 = !x.flags.getLsbD 5 := by simp
  rw [Cell.gains, bne_iff_ne, BitVec.and_comm, hbit, hmask, BitVec.and_twoPow, BitVec.and_twoPow, hnot]
  cases x.flags.getLsbD 5 with
  | false => exact iff_of_true hset rfl
  | true => exact iff_of_false (not_not_intro rfl) hset

/-- The events of the update: CELL_FLAG once, if any of the flags was clear. -/
def Engine.dryEvents (e : Engine) (g : StringId) (set : List Position) : List Event :=
  if ∃ q ∈ set, (e.cell g q).flags &&& 0x20 = 0 then [.cellFlag] else []

theorem Engine.flagDry_eq (e : Engine) (g : StringId) (set : List Position) :
    e.flagDry g set = { set.foldl (Engine.setDry g) e with raised := e.raised ++ e.dryEvents g set } := by
  obtain ⟨cells, hcells⟩ := Engine.setDries_eq g set e
  have hgains : (set.any fun q => (e.cell g q).gains cfDry) = true ↔ ∃ q ∈ set, (e.cell g q).flags &&& 0x20 = 0 := by
    simp only [List.any_eq_true, Cell.gains_dry]
  have hflag : e.flagDry g set = if ∃ q ∈ set, (e.cell g q).flags &&& 0x20 = 0 then
      (set.foldl (Engine.setDry g) e).raise .cellFlag else set.foldl (Engine.setDry g) e := if_congr hgains rfl rfl
  rw [hflag, hcells, Engine.dryEvents]
  split
  · rfl
  · rw [List.append_nil]

/-- The cell table, the events and everything else after the update. -/
theorem Engine.flagDry_leaves (e : Engine) (g : StringId) (set : List Position) :
    (∀ k q, (e.flagDry g set).cell k q = if k = g ∧ q ∈ set then (e.cell k q).setFlags cfDry else e.cell k q)
      ∧ (e.flagDry g set).raised = e.raised ++ e.dryEvents g set
      ∧ { e.flagDry g set with cells := e.cells, raised := e.raised } = e := by
  obtain ⟨cells, hcells⟩ := Engine.setDries_eq g set e
  rw [Engine.flagDry_eq]
  exact ⟨fun k q => Engine.cell_setDries g k q set e, rfl, by rw [hcells]⟩

/-! ## The completion of a VERIFY sweep (R159) -/

section
variable {e : Engine} {w : Request} {r : Round} {g : StringId} (p : Profile) (replied missing : AddrSet)
  (hr : e.ctx w.ctx = some r) (hslot : r.slot = w.slot) (hpurpose : w.purpose = .verify) (hphase : r.phase = .verify)

include hr hslot hpurpose hphase

/-- A COMPLETE completion that its round awaits in VERIFY: the sweep is counted, and the string is judged. -/
theorem Engine.completion_verify (hcur : r.cur = some g) :
    e.completion p w true replied missing = e.verifyCompletion w.ctx (r.countSweep true) g replied missing := by
  have hawaits : (Phase.verify).awaits .verify = true := rfl
  have hcounted : (r.countSweep true).cur = some g := hcur
  simp only [Engine.completion, Engine.withRound, hr, hslot, if_true, hphase, hpurpose, hawaits, Engine.countSettled,
    Engine.completeSweep, hcounted]

/-- A FAILED completion that its round awaits in VERIFY: the sweep is counted, and the string closes unverified. -/
theorem Engine.completion_verify_failed :
    e.completion p w false replied missing = e.closeWater w.ctx (r.countSweep false) .wateredUnverified := by
  have hawaits : (Phase.verify).awaits .verify = true := rfl
  simp only [Engine.completion, Engine.withRound, hr, hslot, if_true, hphase, hpurpose, hawaits, Engine.countSettled,
    Engine.failedSweep, if_false, Bool.false_eq_true]

end

/-- Two sets of positions share one. -/
theorem and_ne_zero_iff {s t : PosSet} :
    s &&& t ≠ 0 ↔ ∃ q : Position, s.getLsbD q.val = true ∧ t.getLsbD q.val = true := by
  constructor
  · intro h
    by_contra hn
    refine h (BitVec.eq_of_getLsbD_eq fun i hi => ?_)
    have hq : ¬ (s.getLsbD i = true ∧ t.getLsbD i = true) := fun hq => hn ⟨⟨i, hi⟩, hq⟩
    simpa using hq
  · rintro ⟨q, hs, ht⟩ h
    have hbit : (s &&& t).getLsbD q.val = true := by rw [BitVec.getLsbD_and, hs, ht]; rfl
    rw [h] at hbit
    exact absurd hbit (by simp)

/-- A census cell of the string is in the set. -/
theorem Engine.anyCensusIn_iff {e : Engine} {g : StringId} {set : AddrSet} : e.anyCensusIn g set = true ↔
    ∃ q : Position, (e.str g).censusSet.getLsbD q.val = true ∧ (set.get g).getLsbD q.val = true := by
  rw [Engine.anyCensusIn, bne_iff_ne, and_ne_zero_iff]

/-- The census cells that replied and whose stored level reads BELOW (R159). -/
def Engine.dryCells (e : Engine) (g : StringId) (replied : AddrSet) : List Position :=
  (e.repliedCells g replied).filter fun q => (e.cell g q).level == .below

theorem Engine.mem_dryCells {e : Engine} {g : StringId} {replied : AddrSet} {q : Position} :
    q ∈ e.dryCells g replied ↔ (e.str g).censusSet.getLsbD q.val = true ∧ (replied.get g).getLsbD q.val = true
      ∧ (e.cell g q).level = .below := by
  rw [Engine.dryCells, List.mem_filter, Engine.repliedCells, mem_positionsOf, BitVec.getLsbD_and, Bool.and_eq_true,
    beq_iff_eq, and_assoc]

section
variable {e : Engine} (c : CtxId) (r : Round) {g : StringId} {replied missing : AddrSet}

/-- Cells that are still dry after water are handed to the cell table, and the string closes STILL_LOW. -/
theorem Engine.verifyCompletion_dry (h : e.dryCells g replied ≠ []) :
    e.verifyCompletion c r g replied missing = (e.flagDry g (e.dryCells g replied)).closeWater c r .stillLow := if_pos h

/-- With no dry cell, a census cell that is missing leaves the string unverified. -/
theorem Engine.verifyCompletion_missing (h : e.dryCells g replied = []) (hm : e.anyCensusIn g missing = true) :
    e.verifyCompletion c r g replied missing = e.closeWater c r .wateredUnverified :=
  (if_neg (not_not_intro h)).trans (if_pos hm)

/-- With no dry cell and none missing, the string is watered. -/
theorem Engine.verifyCompletion_watered (h : e.dryCells g replied = []) (hm : ¬ e.anyCensusIn g missing = true) :
    e.verifyCompletion c r g replied missing = e.closeWater c r .watered :=
  (if_neg (not_not_intro h)).trans (if_neg hm)

end

/-- Settles O50: the update of the cell table, and the ways a VERIFY sweep closes its string. -/
theorem dryAfterWaterIsSet : Obligations.DryAfterWaterIsSet := by
  unfold Obligations.DryAfterWaterIsSet
  refine ⟨Engine.flagDry_leaves, ?_⟩
  intro e p w r g replied missing hr hslot hpurpose hphase hcur counted census
  have hcomplete : e.completion p w true replied missing = e.verifyCompletion w.ctx counted g replied missing :=
    Engine.completion_verify p replied missing hr hslot hpurpose hphase hcur
  rw [hcomplete]
  refine ⟨⟨e.dryCells g replied, fun q => Engine.mem_dryCells, fun hdry => ?_,
    fun hnone => ⟨fun hm => ?_, fun hm => ?_⟩⟩, ?_⟩
  · exact Engine.verifyCompletion_dry _ _ hdry
  · exact Engine.verifyCompletion_missing _ _ hnone (Engine.anyCensusIn_iff.mpr hm)
  · refine Engine.verifyCompletion_watered _ _ hnone fun hany => ?_
    obtain ⟨q, hcensus, hmissing⟩ := Engine.anyCensusIn_iff.mp hany
    exact absurd (hm q hcensus) (ne_false_of_eq_true hmissing)
  · exact Engine.completion_verify_failed p replied missing hr hslot hpurpose hphase

end Sys2Proof.Machine
end

section
/-! SUPPORT. The way from the samples to the supply qualifier: no work of the blocks makes an advance of the clock, and
none but the arrival at the qualifier changes what it owes or holds, or brings an arrival (R84, R89, R93; log 7, log 11). -/

namespace Sys2Proof.Machine

/-- The work is the arrival of a sample at one of its consumers (R84). -/
@[simp] def Work.isArrival : Work → Bool
  | .arrival _ _ => true
  | _ => false

/-- What stands between the samples and the supply qualifier: the coming advance made already, the qualify time of the
sample that is owed, the qualifier itself, and the arrivals among the work that waits. -/
structure Intake where
  advanceTaken : Bool
  owed : Option Nat
  supply : SupplyUnit
  arrivals : List Work

/-- What the blocks hold of that (R84, R89). -/
def Engine.intake (e : Engine) : Intake :=
  { advanceTaken := e.advanceTaken, owed := e.qualifierOwed, supply := e.supply,
    arrivals := e.agenda.filter Work.isArrival }

/-! ## Records -/

@[simp] theorem Engine.setCtx_intake (e : Engine) (c : CtxId) (r : Option Round) :
    (e.setCtx c r).intake = e.intake := rfl
@[simp] theorem Engine.putRound_intake (e : Engine) (c : CtxId) (r : Round) : (e.putRound c r).intake = e.intake := rfl
@[simp] theorem Engine.modSlot_intake (e : Engine) (n : SlotId) (f : Slot → Slot) :
    (e.modSlot n f).intake = e.intake := rfl
@[simp] theorem Engine.modStr_intake (e : Engine) (g : StringId) (f : StringRec → StringRec) :
    (e.modStr g f).intake = e.intake := rfl
@[simp] theorem Engine.putCell_intake (e : Engine) (g : StringId) (q : Position) (x : Cell) :
    (e.putCell g q x).intake = e.intake := rfl
@[simp] theorem Engine.modLine_intake (e : Engine) (f : Line → Line) : (e.modLine f).intake = e.intake := rfl
@[simp] theorem Engine.modBoard_intake (e : Engine) (f : Board → Board) : (e.modBoard f).intake = e.intake := rfl
@[simp] theorem Engine.raise_intake (e : Engine) (ev : Event) : (e.raise ev).intake = e.intake := rfl
@[simp] theorem Engine.holdEntry_intake (e : Engine) (g : StringId) : (e.holdEntry g).intake = e.intake := rfl
@[simp] theorem Engine.openValve_intake (e : Engine) (g : StringId) : (e.openValve g).intake = e.intake := rfl
@[simp] theorem Engine.releaseString_intake (e : Engine) (g : StringId) : (e.releaseString g).intake = e.intake := rfl
@[simp] theorem Engine.putCensus_intake (e : Engine) (g : StringId) (x : Census) (set : PosSet) :
    (e.putCensus g x set).intake = e.intake := rfl
@[simp] theorem Engine.takeClaims_intake (e : Engine) (c : CtxId) (y : Slot) :
    (e.takeClaims c y).intake = e.intake := rfl
@[simp] theorem Engine.withdrawSweep_intake (e : Engine) (c : CtxId) : (e.withdrawSweep c).intake = e.intake := rfl

/-! ## Work that is handed over -/

/-- Handing over work leaves the intake as it is, where no arrival is among that work. -/
@[simp] theorem Engine.hand_intake (e : Engine) (ws : List Work) (h : ws.any Work.isArrival = false) :
    (e.hand ws).intake = e.intake := by
  have hnone : ws.filter Work.isArrival = [] := by simpa using h
  simp [Engine.intake, hnone]

@[simp] theorem Engine.causeTo_any (e : Engine) (f : Round → Bool) (x : Cause) :
    (e.causeTo f x).any Work.isArrival = false := by
  rw [List.any_eq_false]
  intro w hw
  obtain ⟨c, -, hc⟩ := List.mem_filterMap.mp hw
  split at hc
  · split at hc
    · cases hc; simp
    · cases hc
  · cases hc

@[simp] theorem Line.failAll_any (l : Line) : l.failAll.any Work.isArrival = false := by
  unfold Line.failAll
  split
  · split <;> simp [failedCompletion, Function.comp_def]
  · simp [failedCompletion, Function.comp_def]

/-! ## Choices and lists -/

/-- What both ways keep, a choice between them keeps. -/
@[simp] theorem Engine.ite_intake (q : Prop) [Decidable q] (a b : Engine) :
    (if q then a else b).intake = if q then a.intake else b.intake := apply_ite Engine.intake q a b

/-- What each piece of a list keeps, the whole keeps. -/
theorem Engine.foldl_intake {α : Type} {f : Engine → α → Engine} (hf : ∀ e x, (f e x).intake = e.intake) (l : List α)
    (e : Engine) : (l.foldl f e).intake = e.intake := by
  induction l generalizing e with
  | nil => rfl
  | cons x l ih => exact (ih _).trans (hf e x)

section
variable (e : Engine) (p : Profile) (c : CtxId) (r : Round)

/-! ## Cells (chapter 4) -/

@[simp] theorem Engine.flagCell_intake (g : StringId) (q : Position) (f : Byte) :
    (e.flagCell g q f).intake = e.intake := by
  simp [Engine.flagCell]

@[simp] theorem Engine.flagDry_intake (g : StringId) (set : List Position) : (e.flagDry g set).intake = e.intake := by
  have hfold := Engine.foldl_intake (f := fun e q => e.putCell g q ((e.cell g q).setFlags cfDry)) (fun _ _ => rfl) set e
  simp [Engine.flagDry, hfold]

@[simp] theorem Engine.missCell_intake (g : StringId) (q : Position) : (e.missCell g q).intake = e.intake := by
  simp [Engine.missCell]

@[simp] theorem Engine.missAccounting_intake (missing : AddrSet) : (e.missAccounting missing).intake = e.intake := by
  refine Engine.foldl_intake (fun e g => ?_) _ e
  split
  · exact Engine.foldl_intake (fun e q => e.missCell_intake g q) _ e
  · rfl

/-! ## Selectors, charger and water (chapters 6 to 8) -/

@[simp] theorem Engine.requestTransfer_intake (g : StringId) (b : Bool) (d : Drive) :
    (e.requestTransfer p c g b d).2.intake = e.intake := by
  unfold Engine.requestTransfer
  repeat' split
  all_goals rfl

@[simp] theorem Engine.chargerEnable_intake (v l : Nat) : (e.chargerEnable c v l).intake = e.intake := by
  unfold Engine.chargerEnable; split <;> rfl

@[simp] theorem Engine.chargerSet_intake (v : Nat) : (e.chargerSet c v).intake = e.intake := by
  unfold Engine.chargerSet; split <;> rfl

@[simp] theorem Engine.chargerDisable_intake : (e.chargerDisable c).intake = e.intake := by
  unfold Engine.chargerDisable; split <;> rfl

@[simp] theorem Engine.strand_intake (g : StringId) : (e.strand g).intake = e.intake := by
  unfold Engine.strand; split <;> rfl

@[simp] theorem Engine.closeValve_intake : (e.closeValve p).intake = e.intake := by
  unfold Engine.closeValve; split <;> rfl

/-! ## The cell line (chapter 3) -/

@[simp] theorem Engine.faultLine_intake (x : LineCause) : (e.faultLine p x).intake = e.intake :=
  Engine.hand_intake _ _ e.line.failAll_any

@[simp] theorem Engine.startSweep_intake : (e.startSweep p).intake = e.intake := by
  unfold Engine.startSweep
  split
  · rfl
  · dsimp only
    split <;> rfl

@[simp] theorem Engine.nextSweep_intake : (e.nextSweep p).intake = e.intake := by simp [Engine.nextSweep]

@[simp] theorem Engine.requestSweep_intake (n : SlotId) (m : StringMask) (u : Purpose) :
    (e.requestSweep p c n m u).intake = e.intake := by
  unfold Engine.requestSweep
  split
  case h_5 =>
    rw [Engine.ite_intake, Engine.startSweep_intake, ite_self]
    rfl
  all_goals rfl

@[simp] theorem Engine.afterGuardFailed_intake : (e.afterGuardFailed p).intake = e.intake := by
  simp [Engine.afterGuardFailed]

@[simp] theorem Engine.afterSweep_intake (silent : Bool) : (e.afterSweep p silent).intake = e.intake := by
  simp [Engine.afterSweep]

@[simp] theorem Engine.deliverSweep_intake (w : Sweep) (silent : Bool) :
    (e.deliverSweep w silent).intake = e.intake := by
  rw [Engine.deliverSweep, Engine.hand_intake _ _ (by split <;> rfl), Engine.missAccounting_intake,
    Engine.modLine_intake]
  split <;> rfl

@[simp] theorem Engine.endSweep_intake (w : Sweep) : (e.endSweep p w).intake = e.intake := by simp [Engine.endSweep]

@[simp] theorem Engine.badFrame_intake : (e.badFrame p).intake = e.intake := by
  rw [Engine.badFrame, Engine.ite_intake, Engine.faultLine_intake, ite_self, Engine.modLine_intake]

@[simp] theorem Engine.storeReading_intake (w : Sweep) (r : Reading) (q : Position) :
    (e.storeReading p w r q).intake = e.intake := by
  simp [Engine.storeReading]

@[simp] theorem Engine.goodReply_intake (w : Sweep) (r : Reading) (q : Position) :
    (e.goodReply p w r q).intake = e.intake := by
  simp [Engine.goodReply]

@[simp] theorem Engine.soundFrame_intake (r : Reading) : (e.soundFrame p r).intake = e.intake := by
  unfold Engine.soundFrame
  split
  · split
    · exact e.goodReply_intake p _ r _
    · rfl
  · rfl

@[simp] theorem Engine.received_intake (bytes : List Byte) : (e.received p bytes).intake = e.intake := by
  unfold Engine.received Engine.classify
  split
  · split
    · split <;> simp
    · simp
  · rfl

/-! ## The board (chapter 2) -/

@[simp] theorem Engine.refavour_intake : e.refavour.intake = e.intake := by rw [Engine.refavour_eq]; rfl

@[simp] theorem Engine.leaveQueue_intake (n : SlotId) : (e.leaveQueue n).intake = e.intake := by
  simp [Engine.leaveQueue]

@[simp] theorem Engine.countPassed_intake (l : List SlotId) : (e.countPassed l).intake = e.intake :=
  (Engine.refavour_intake _).trans (Engine.foldl_intake
    (f := fun e m => e.modSlot m fun x => { x with passOver := bump 8 x.passOver }) (fun _ _ => rfl) l e)

@[simp] theorem Engine.dispatch_intake (n : SlotId) (k : Kind) : (e.dispatch c n k).intake = e.intake := by
  simp [Engine.dispatch]

@[simp] theorem Engine.walkOne_intake (n : SlotId) (rest : List SlotId) : (e.walkOne p n rest).intake = e.intake := by
  unfold Engine.walkOne
  split
  · split <;> simp
  · rfl

@[simp] theorem Engine.settleQueued_intake (n : SlotId) (o : OrderOutcome) (x : Cause) :
    (e.settleQueued n o x).intake = e.intake := by
  simp [Engine.settleQueued]

@[simp] theorem Engine.releasePath_intake : (e.releasePath p c).intake = e.intake := by
  unfold Engine.releasePath
  split
  · exact e.closeValve_intake p
  · rfl

@[simp] theorem Engine.freeContext_intake : (e.freeContext p c).intake = e.intake :=
  ((e.chargerDisable c).releasePath_intake p c).trans (e.chargerDisable_intake c)

@[simp] theorem Engine.endStandDown_intake : e.endStandDown.intake = e.intake := by simp [Engine.endStandDown]
@[simp] theorem Engine.finish_intake : (e.finish p c r).intake = e.intake := by simp [Engine.finish]

@[simp] theorem Engine.releaseCharger_intake : (e.releaseCharger c).intake = e.intake := by
  have hkeep (f : Engine) (k : Claims) : ({ f with claims := k } : Engine).intake = f.intake := rfl
  simp [Engine.releaseCharger, hkeep]

@[simp] theorem Engine.censusReport_intake (g : StringId) : (e.censusReport g).intake = e.intake := by
  unfold Engine.censusReport; split <;> simp

@[simp] theorem Engine.standDownNext_intake : e.standDownNext.intake = e.intake := by
  unfold Engine.standDownNext; split <;> simp

@[simp] theorem Engine.standDownCheck_intake : e.standDownCheck.intake = e.intake := by simp [Engine.standDownCheck]

/-! ## Rounds: EQUALISE and RETURN (chapter 7) -/

@[simp] theorem Engine.primaryHistory_intake (g : StringId) (o : Outcome) :
    (e.primaryHistory p r g o).intake = e.intake := by
  simp [Engine.primaryHistory]

@[simp] theorem Engine.closePrimary_intake (g : StringId) (o : Outcome) :
    (e.closePrimary p c r g o).intake = e.intake := by
  simp [Engine.closePrimary]

@[simp] theorem Engine.closeCurrent_intake (o : Outcome) : (e.closeCurrent p c r o).intake = e.intake := by
  unfold Engine.closeCurrent; split <;> simp

@[simp] theorem Engine.closeStranded_intake : (e.closeStranded p c r).intake = e.intake := by
  unfold Engine.closeStranded; split <;> simp

@[simp] theorem Engine.closeFaulted_intake : (e.closeFaulted p c r).intake = e.intake := by simp [Engine.closeFaulted]

@[simp] theorem Engine.askTransfer_intake (b : Bool) (d : Drive) : (e.askTransfer p c r b d).2.intake = e.intake := by
  unfold Engine.askTransfer; split <;> simp

/-- Whatever the answer to a transfer request, what follows keeps what it kept. -/
theorem Engine.askTransfer_feeds {e : Engine} {p : Profile} {c : CtxId} {r : Round} {b : Bool} {d : Drive}
    {a : Answer} {f : Engine} (h : e.askTransfer p c r b d = (a, f)) : f.intake = e.intake := by
  rw [← e.askTransfer_intake p c r b d, h]

@[simp] theorem Engine.toLoad_intake : (e.toLoad p c r).intake = e.intake := by
  unfold Engine.toLoad
  dsimp only
  split <;> rename_i h <;> simp [Engine.askTransfer_feeds h]

@[simp] theorem Engine.returnFromOpen_intake : (e.returnFromOpen p c r).intake = e.intake := e.toLoad_intake p c _

@[simp] theorem Engine.enterReturning_intake (b : Bool) : (e.enterReturning p c r b).intake = e.intake := by
  unfold Engine.enterReturning
  dsimp only
  split <;> rename_i h <;> simp [Engine.askTransfer_feeds h]

@[simp] theorem Engine.strandingReturn_intake : (e.strandingReturn p c r).intake = e.intake := by
  simp [Engine.strandingReturn]

@[simp] theorem Engine.enterMatch_intake : (e.enterMatch c r).intake = e.intake := by simp [Engine.enterMatch]

@[simp] theorem Engine.endIntoMatch_intake (o : Outcome) : (e.endIntoMatch c r o).intake = e.intake := by
  simp [Engine.endIntoMatch]

@[simp] theorem Engine.enterIsolating_intake : (e.enterIsolating p c r).intake = e.intake := by
  unfold Engine.enterIsolating
  dsimp only
  split
  · rfl
  · rename_i g _
    have hkeeps := e.requestTransfer_intake p c g true .opened
    split <;> rename_i h <;> rw [h] at hkeeps <;> simp [hkeeps]

@[simp] theorem Engine.enterPrecharge_intake : (e.enterPrecharge c r).intake = e.intake := by
  simp [Engine.enterPrecharge]

@[simp] theorem Engine.giveUpReturn_intake : (e.giveUpReturn p c r).intake = e.intake := by simp [Engine.giveUpReturn]

@[simp] theorem Engine.enterConnecting_intake : (e.enterConnecting p c r).intake = e.intake := by
  unfold Engine.enterConnecting
  dsimp only
  split <;> rename_i h
  · simp [Engine.askTransfer_feeds h]
  · split <;> simp [Engine.askTransfer_feeds h]

@[simp] theorem Engine.enterRamp_intake : (e.enterRamp p c r).intake = e.intake := by simp [Engine.enterRamp]

@[simp] theorem Engine.sweepCurrent_intake (u : Purpose) : (e.sweepCurrent p c r u).intake = e.intake := by
  unfold Engine.sweepCurrent; split <;> simp

@[simp] theorem Engine.enterHold_intake : (e.enterHold p c r).intake = e.intake := by
  unfold Engine.enterHold; split <;> simp

@[simp] theorem Engine.dueHoldSweep_intake : (e.dueHoldSweep p c r).intake = e.intake := by simp [Engine.dueHoldSweep]
@[simp] theorem Engine.judgeHold_intake : (e.judgeHold c r).intake = e.intake := by simp [Engine.judgeHold]

@[simp] theorem Engine.beginString_intake (g : StringId) : (e.beginString p c r g).intake = e.intake := by
  simp [Engine.beginString]

/-! ## Rounds: watering (chapter 8) -/

@[simp] theorem Engine.closeWater_intake (o : Outcome) : (e.closeWater c r o).intake = e.intake := by
  unfold Engine.closeWater
  split
  · rfl
  · split_ifs <;> rfl

@[simp] theorem Engine.enterPrime_intake : (e.enterPrime c r).intake = e.intake := by
  unfold Engine.enterPrime
  dsimp only
  split
  all_goals simp

@[simp] theorem Engine.beginWater_intake (g : StringId) : (e.beginWater p c r g).intake = e.intake := by
  simp [Engine.beginWater]

@[simp] theorem Engine.chooseWater_intake : (e.chooseWater p c r).intake = e.intake := by
  unfold Engine.chooseWater; split <;> simp

@[simp] theorem Engine.endPrimary_intake : (e.endPrimary p c r).intake = e.intake := by simp [Engine.endPrimary]

@[simp] theorem Engine.advance_intake : (e.advance p c r).intake = e.intake := by
  unfold Engine.advance
  split
  · simp
  · split
    · simp
    · split <;> simp

/-! ## Rounds: SURVEY (section 4.7) -/

@[simp] theorem Engine.enterCensus_intake : (e.enterCensus p c r).intake = e.intake := by
  simpa [Engine.enterCensus] using
    Engine.foldl_intake (f := fun e g => e.putCensus g .provisional 0) (fun _ _ => rfl) _ e

@[simp] theorem Engine.beginRound_intake : (e.beginRound p c r).intake = e.intake := by
  unfold Engine.beginRound
  split
  · split <;> simp
  · split <;> simp
  · simp

@[simp] theorem Engine.abortSurvey_intake : (e.abortSurvey c r).intake = e.intake := by
  rw [Engine.abortSurvey, Engine.hand_intake _ _ (by simp [Function.comp_def])]
  exact Engine.foldl_intake (f := fun e g => e.putCensus g .unknown 0) (fun _ _ => rfl) _ _

/-- One string of a CENSUS sweep, and the work it leaves: no arrival. -/
theorem Engine.censusString_intake (k : Nat) (g : StringId) (got : PosSet) :
    (e.censusString p k r g got).2.1.intake = e.intake
      ∧ (e.censusString p k r g got).2.2.any Work.isArrival = false := by
  unfold Engine.censusString; split_ifs <;> simp

theorem Engine.censusStrings_intake (k : Nat) (replied : AddrSet) (l : List StringId) (ws : List Work)
    (hws : ws.any Work.isArrival = false) :
    (Engine.censusStrings p k replied l (r, e, ws)).2.1.intake = e.intake
      ∧ (Engine.censusStrings p k replied l (r, e, ws)).2.2.any Work.isArrival = false := by
  induction l generalizing r e ws with
  | nil => exact ⟨rfl, hws⟩
  | cons g l ih =>
    obtain ⟨hkeeps, hwork⟩ := e.censusString_intake p r k g (replied.get g)
    obtain ⟨hrest, hlast⟩ := ih (e.censusString p k r g (replied.get g)).2.1 (e.censusString p k r g (replied.get g)).1
      (ws ++ (e.censusString p k r g (replied.get g)).2.2) (by rw [List.any_append, hws, hwork]; rfl)
    exact ⟨hrest.trans hkeeps, hlast⟩

@[simp] theorem Engine.censusCompletion_intake (q : Request) (replied : AddrSet) :
    (e.censusCompletion p c r q replied).intake = e.intake := by
  obtain ⟨hkeeps, hwork⟩ := e.censusStrings_intake p r (sweepLimit (e.slot r.slot)) replied (stringsOf q.mask) [] rfl
  unfold Engine.censusCompletion
  dsimp only
  split <;> simp [hkeeps, hwork]

@[simp] theorem Engine.surveyCompletion_intake : (e.surveyCompletion p c r).intake = e.intake := by
  simp [Engine.surveyCompletion]

/-! ## Site causes (R35) -/

@[simp] theorem Engine.endFill_intake (o : Outcome) : (e.endFill p c r o).intake = e.intake := by simp [Engine.endFill]

@[simp] theorem Engine.bringToRest_intake (x : Cause) : (e.bringToRest p c r x).intake = e.intake := by
  unfold Engine.bringToRest
  split <;> simp

@[simp] theorem Engine.takeCause_intake (x : Cause) : (e.takeCause p c r x).intake = e.intake := by
  simp [Engine.takeCause]

/-! ## Completions and notices -/

@[simp] theorem Engine.checkCompletion_intake (g : StringId) (missing : AddrSet) :
    (e.checkCompletion p c r g missing).intake = e.intake := by
  simp [Engine.checkCompletion]

@[simp] theorem Engine.holdOn_intake (g : StringId) : (e.holdOn p c r g).intake = e.intake := by simp [Engine.holdOn]

@[simp] theorem Engine.holdCompletion_intake (g : StringId) : (e.holdCompletion p c r g).intake = e.intake := by
  simp [Engine.holdCompletion]

@[simp] theorem Engine.estimateCompletion_intake (g : StringId) (replied : AddrSet) :
    (e.estimateCompletion p c r g replied).intake = e.intake := by
  simp [Engine.estimateCompletion]

@[simp] theorem Engine.levelCompletion_intake (g : StringId) (missing : AddrSet) :
    (e.levelCompletion c r g missing).intake = e.intake := by
  simp [Engine.levelCompletion]

@[simp] theorem Engine.verifyCompletion_intake (g : StringId) (replied missing : AddrSet) :
    (e.verifyCompletion c r g replied missing).intake = e.intake := by
  simp [Engine.verifyCompletion]

@[simp] theorem Engine.failedSweep_intake (u : Purpose) : (e.failedSweep p c r u).intake = e.intake := by
  unfold Engine.failedSweep; split <;> simp

@[simp] theorem Engine.completeSweep_intake (q : Request) (replied missing : AddrSet) :
    (e.completeSweep p c r q replied missing).intake = e.intake := by
  unfold Engine.completeSweep; split <;> simp

/-- What is done with a context's round keeps what it keeps for every round. -/
theorem Engine.withRound_intake {e : Engine} {c : CtxId} {n : SlotId} {f : Round → Engine → Engine}
    (hf : ∀ r, (f r e).intake = e.intake) : (e.withRound c n f).intake = e.intake := by
  unfold Engine.withRound
  split
  · split
    · exact hf _
    · rfl
  · rfl

@[simp] theorem Engine.completion_intake (q : Request) (ok : Bool) (replied missing : AddrSet) :
    (e.completion p q ok replied missing).intake = e.intake :=
  Engine.withRound_intake fun r => by simp

@[simp] theorem Engine.transferDone_intake (d : Drive) : (e.transferDone p c r d).intake = e.intake := by
  unfold Engine.transferDone
  split
  · split <;> simp
  · split_ifs
    · simp
    · dsimp only
      split <;> rename_i h <;> simp [Engine.askTransfer_feeds h]
    · simp
  · simp
  · split <;> simp
  · simp
  · rfl

@[simp] theorem Engine.faultNotice_intake : (e.faultNotice p c r).intake = e.intake := by
  unfold Engine.faultNotice
  split <;> simp

@[simp] theorem Engine.restOver_intake : (e.restOver p c r).intake = e.intake := by simp [Engine.restOver]

/-! ## Arrivals (chapter 5) -/

/-- The qualifier takes the arrival that is owed, and nothing else is. -/
theorem Engine.qualify_intake (time : Nat) : (e.qualify p time).intake
    = { e.intake with owed := none, supply := e.supply.sample time (latestLines e.latest) } := by
  unfold Engine.qualify
  dsimp only
  split
  · rw [Engine.hand_intake _ _ (by simp)]
    rfl
  · rfl

theorem Engine.causeToHolder_any (o : Option CtxId) (x : Cause) : (e.causeToHolder o x).any Work.isArrival = false := by
  unfold Engine.causeToHolder
  split
  · split <;> rfl
  · rfl

@[simp] theorem Engine.chargerArrival_intake (prev : Lines) : (e.chargerArrival prev).intake = e.intake := by
  simp [Engine.chargerArrival, Engine.causeToHolder_any]

@[simp] theorem Engine.boardArrival_intake (prev : Lines) : (e.boardArrival prev).intake = e.intake := by
  simp [Engine.boardArrival]

@[simp] theorem Engine.emptyPath_intake : (e.emptyPath p).intake = e.intake := by
  have hempty (f : Engine) : ({ f with water := { f.water with state := .empty } } : Engine).intake = f.intake := rfl
  rw [Engine.emptyPath, Engine.hand_intake _ _ (by split <;> simp [Engine.causeToHolder_any]), hempty,
    Engine.closeValve_intake]

@[simp] theorem Engine.refillPath_intake : e.refillPath.intake = e.intake := rfl

@[simp] theorem Engine.waterArrival_intake (prev : Lines) : (e.waterArrival p prev).intake = e.intake := by
  simp [Engine.waterArrival]

@[simp] theorem Engine.prechargeSample_intake (x : Sample) : (e.prechargeSample p c r x).intake = e.intake := by
  simp [Engine.prechargeSample]

@[simp] theorem Engine.rampSample_intake (x : Sample) : (e.rampSample p c r x).intake = e.intake := by
  simp [Engine.rampSample]

@[simp] theorem Engine.holdSample_intake (x : Sample) : (e.holdSample c r x).intake = e.intake := e.judgeHold_intake c _

@[simp] theorem Engine.matchSample_intake (x : Sample) : (e.matchSample p c r x).intake = e.intake := by
  simp [Engine.matchSample]

@[simp] theorem Engine.ctxArrival_intake : (e.ctxArrival p c).intake = e.intake := by
  unfold Engine.ctxArrival
  split
  · split <;> simp
  · rfl

/-! ## Any work -/

/-- What the qualifier's arrival may change of the intake: nothing is owed afterwards. -/
def Intake.Fed (x y : Intake) : Prop := y = x ∨ ∃ u, y = { x with owed := none, supply := u }

/-- An arrival at a consumer of the sample: only the qualifier's takes what is owed. -/
theorem Engine.arrival_fed (k : Consumer) (prev : Lines) : e.intake.Fed (e.arrival p k prev).intake := by
  cases k with
  | qualifier => exact .inr ⟨_, e.qualify_intake p _⟩
  | context c => exact .inl (e.ctxArrival_intake p c)
  | charger => exact .inl (e.chargerArrival_intake prev)
  | board => exact .inl (e.boardArrival_intake prev)
  | water => exact .inl (e.waterArrival_intake p prev)

/-- No piece of work but an arrival changes the intake. -/
theorem Engine.work_intake {w : Work} (hw : w.isArrival = false) : (e.work p w).intake = e.intake := by
  cases w with
  | arrival k prev => cases hw
  | scan => simp only [Engine.work]; split <;> rfl
  | walk l => cases l <;> simp [Engine.work]
  | beginRound c n => exact Engine.withRound_intake fun r => e.beginRound_intake p c r
  | cause c n x => exact Engine.withRound_intake fun r => e.takeCause_intake p c r x
  | completion q ok replied missing => exact e.completion_intake p q ok replied missing
  | received bytes => exact e.received_intake p bytes
  | guardFailed => exact e.afterGuardFailed_intake p
  | sweepDone silent => exact e.afterSweep_intake p silent
  | transferDone c n g d => exact Engine.withRound_intake fun r => by split <;> simp
  | faultNotice c n g => exact Engine.withRound_intake fun r => by split <;> simp
  | censusLost g => exact e.censusReport_intake g
  | standDownNext => exact e.standDownNext_intake
  | standDownCheck => exact e.standDownCheck_intake
  | advance c n => exact Engine.withRound_intake fun r => e.advance_intake p c r
  | restOver c n => exact Engine.withRound_intake fun r => e.restOver_intake p c r

theorem Engine.work_fed (w : Work) : e.intake.Fed (e.work p w).intake := by
  cases hw : w.isArrival with
  | false => exact .inl (e.work_intake p hw)
  | true =>
    cases w with
    | arrival k prev => exact e.arrival_fed p k prev
    | _ => cases hw

end

/-- What each piece of work keeps, the blocks keep until none is left. -/
theorem Engine.drain_keeps {P : Engine → Prop} {p : Profile}
    (h : ∀ (e : Engine) w ws, e.agenda = w :: ws → P e → P (({ e with agenda := ws } : Engine).work p w)) (k : Nat)
    {e : Engine} (he : P e) : P (Engine.drain p k e) := by
  induction k generalizing e with
  | zero => exact he
  | succ k ih =>
    cases ha : e.agenda with
    | nil => rwa [Engine.drain_nil p _ e ha]
    | cons w ws =>
      rw [Engine.drain_succ p k e (by simp [ha])]
      refine ih ?_
      simp only [Engine.workNext, ha]
      exact h e w ws ha he

/-- Whatever work follows, no advance of the clock is made or taken back (log 7). -/
theorem State.act_advanceTaken (s : State) (f : Engine → Engine) :
    (s.act f).eng.advanceTaken = (f s.eng).advanceTaken := by
  refine Engine.drain_keeps (P := fun e => e.advanceTaken = (f s.eng).advanceTaken) (fun e w ws _ he => ?_)
    Config.workBudget rfl
  obtain h | ⟨u, h⟩ := Engine.work_fed { e with agenda := ws } s.profile w
  · exact (congrArg Intake.advanceTaken h).trans he
  · exact (congrArg Intake.advanceTaken h).trans he

/-- Whatever work follows, the qualifier does not come to owe a sample (log 11). -/
theorem State.act_nothing_owed {s : State} {f : Engine → Engine} (h : (f s.eng).qualifierOwed = none) :
    (s.act f).eng.qualifierOwed = none := by
  refine Engine.drain_keeps (P := fun e => e.qualifierOwed = none) (fun e w ws _ he => ?_) Config.workBudget h
  obtain h | ⟨u, h⟩ := Engine.work_fed { e with agenda := ws } s.profile w
  · exact (congrArg Intake.owed h).trans he
  · exact congrArg Intake.owed h

/-- Where no arrival waits, whatever the blocks do keeps the qualifier that they begin with. -/
theorem State.act_supply {s : State} {f : Engine → Engine} (h : (f s.eng).intake.arrivals = []) :
    (s.act f).eng.supply = (f s.eng).supply := by
  have hkeeps : (Engine.drain s.profile Config.workBudget (f s.eng)).intake = (f s.eng).intake := by
    refine Engine.drain_keeps (P := fun e => e.intake = (f s.eng).intake) (fun e w ws ha he => ?_) Config.workBudget rfl
    have hnone : (w :: ws).filter Work.isArrival = [] :=
      (congrArg (List.filter _) ha).symm.trans ((congrArg Intake.arrivals he).trans h)
    have hw : w.isArrival = false := by
      cases hw : w.isArrival with
      | false => rfl
      | true => exact absurd ((List.filter_cons_of_pos hw).symm.trans hnone) (List.cons_ne_nil _ _)
    rw [Engine.work_intake _ _ hw, ← he, Engine.intake, Engine.intake, ha, List.filter_cons_of_neg (ne_true_of_eq_false hw)]
  exact congrArg Intake.supply hkeeps

end Sys2Proof.Machine
end

section
/-! SUPPORT. The qualifier's own step, the part clock, and the end of the link's deafness (R89, R90, R93, R181). -/

namespace Sys2Proof.Machine

/-! ## The arrival that is owed (R89, log 11) -/

theorem State.awake_iff {s : State} : s.awake = true ↔ s.held = none ∧ s.alert.power = .active := by
  simp only [State.awake, Bool.and_eq_true, Option.isNone_iff_eq_none, beq_iff_eq]

theorem exec_supplyLineQualified {s : State} (hs : s.awake = true) :
    exec .supplyLineQualified s = .next s.settleQualifier := congrArg Host.Outcome.next (if_pos hs)

theorem State.settleQualifier_settled {s : State} (h : s.eng.qualifierOwed = none) : s.settleQualifier = s := by
  simp only [State.settleQualifier, h]

theorem State.settleQualifier_owed {s : State} {time : Nat} (h : s.eng.qualifierOwed = some time) :
    s.settleQualifier = s.act fun e => e.qualify s.profile time := by
  simp only [State.settleQualifier, h]

/-- Once the qualifier has taken what it owed, nothing is owed. -/
theorem State.settleQualifier_nothing_owed (s : State) : s.settleQualifier.eng.qualifierOwed = none := by
  cases h : s.eng.qualifierOwed with
  | none => rwa [State.settleQualifier_settled h]
  | some time =>
    rw [State.settleQualifier_owed h]
    exact State.act_nothing_owed (congrArg Intake.owed (s.eng.qualify_intake s.profile time))

/-- The qualifier's taking makes no advance of the clock (R93). -/
theorem State.settleQualifier_clock (s : State) : s.settleQualifier.eng.clock = s.eng.clock
    ∧ s.settleQualifier.eng.advanceTaken = s.eng.advanceTaken := by
  cases h : s.eng.qualifierOwed with
  | none => rw [State.settleQualifier_settled h]; exact ⟨rfl, rfl⟩
  | some time =>
    rw [State.settleQualifier_owed h]
    have hkeeps := (s.act_measured fun e => e.qualify s.profile time).trans (s.eng.qualify_measured s.profile time)
    exact ⟨congrArg Prod.fst hkeeps,
      (s.act_advanceTaken _).trans (congrArg Intake.advanceTaken (s.eng.qualify_intake s.profile time))⟩

/-- The qualifier of a calm part takes the sample that is owed, and nothing that follows changes it (R90). -/
theorem State.settleQualifier_supply {s : State} {time : Nat} (hs : s.calm) (h : s.eng.qualifierOwed = some time) :
    s.settleQualifier.eng.supply = s.eng.supply.sample time (latestLines s.eng.latest) := by
  have hintake := s.eng.qualify_intake s.profile time
  have hnone : (s.eng.qualify s.profile time).intake.arrivals = [] :=
    (congrArg Intake.arrivals hintake).trans (congrArg (List.filter Work.isArrival) hs.1)
  rw [State.settleQualifier_owed h, State.act_supply hnone]
  exact congrArg Intake.supply hintake

/-! ## The part clock and the link's deafness (R84, R93, R181) -/

/-- A SAMPLE makes the advance of its second, where no clock event has made it already (log 7). -/
theorem exec_sample_clock {s : State} (hs : s.awake = true) (r : Readings) (order : List Consumer) :
    ∃ t, exec (.sample r order) s = .next t
      ∧ t.eng.clock = (if s.eng.advanceTaken then s.eng.clock else s.eng.clock + 1) ∧ t.eng.advanceTaken = false := by
  obtain ⟨hclock, htaken⟩ := s.settleQualifier_clock
  let f : Engine → Engine := fun e => e.takeSample s.profile r order
  refine ⟨s.settleQualifier.act f, congrArg Host.Outcome.next (if_pos hs), ?_, s.settleQualifier.act_advanceTaken f⟩
  have hsample : (f s.settleQualifier.eng).clock = if s.settleQualifier.eng.advanceTaken then s.settleQualifier.eng.clock
      else s.settleQualifier.eng.clock + 1 := rfl
  rw [← hclock, ← htaken, ← hsample]
  exact congrArg Prod.fst (s.settleQualifier.act_measured f)

/-- Settles O23: each command by the state it needs, and the sample's advance. -/
theorem clockAndDeafness : Obligations.ClockAndDeafness := by
  unfold Obligations.ClockAndDeafness
  intro s
  refine ⟨fun hs => ?_, fun hs => ?_, fun hs => ?_, fun hs ha => ?_, exec_sample_clock⟩
  · exact congrArg Host.Outcome.next (if_pos (Option.isNone_iff_eq_none.mpr hs))
  · exact congrArg Host.Outcome.next (if_neg (mt Option.isNone_iff_eq_none.mp hs))
  · refine congrArg Host.Outcome.next (if_neg fun hawake => ?_)
    obtain ⟨hheld, hpower⟩ := State.awake_iff.mp hawake
    obtain h | h := hs
    · exact h hheld
    · exact absurd (hpower.symm.trans h) (by decide)
  · exact congrArg Host.Outcome.next (if_pos (State.awake_iff.mpr ⟨hs, ha⟩))

end Sys2Proof.Machine
end

section
/-! SUPPORT. A sample at the supply qualifier, and the supply state that it hands over (R89, R90). -/

namespace Sys2Proof.Machine

/-! ## One line of the qualifier (R89) -/

theorem qualifyLine_same {time count : Nat} {sampled old : Bool} (h : sampled = old) :
    qualifyLine time sampled old count = (old, 0) := if_pos h

theorem qualifyLine_taken {time count : Nat} {sampled old : Bool} (h : sampled ≠ old) (ht : time ≤ count + 1) :
    qualifyLine time sampled old count = (sampled, 0) := (if_neg h).trans (if_pos ht)

theorem qualifyLine_counted {time count : Nat} {sampled old : Bool} (h : sampled ≠ old) (ht : count + 1 < time) :
    qualifyLine time sampled old count = (old, count + 1) := (if_neg h).trans (if_neg ht.not_ge)

/-- The rule of a line: the value that is qualified already, one that has differed for long enough, one that has not. -/
theorem qualifyLine_rule (time count : Nat) (sampled old : Bool) :
    (sampled = old → (qualifyLine time sampled old count).1 = old ∧ (qualifyLine time sampled old count).2 = 0)
      ∧ (sampled ≠ old → time ≤ count + 1 →
        (qualifyLine time sampled old count).1 = sampled ∧ (qualifyLine time sampled old count).2 = 0)
      ∧ (sampled ≠ old → count + 1 < time →
        (qualifyLine time sampled old count).1 = old ∧ (qualifyLine time sampled old count).2 = count + 1) := by
  refine ⟨fun h => ?_, fun h ht => ?_, fun h ht => ?_⟩
  · rw [qualifyLine_same h]; exact ⟨rfl, rfl⟩
  · rw [qualifyLine_taken h ht]; exact ⟨rfl, rfl⟩
  · rw [qualifyLine_counted h ht]; exact ⟨rfl, rfl⟩

/-! ## A profile byte that the blocks do not act on (R178) -/

/-- A WRITE of a profile byte, whichever row brings it: the byte is written, or dropped. -/
theorem exec_profileByte {i : Instr} {s : State} {a : BitVec 16} {k : Nat} {v : Byte} (hi : Sends i ⟨a, [v]⟩)
    (hs : s.linkUp) (hk : k < 64) (ha : low13 a = 0x0040 + k) :
    exec i s = .next (if s.keepsProfile k then ((s.echo a).writeProfile k v).ended false else (s.echo a).erred 2) := by
  have happly := Commit.apply_profile (Commit.start (s.echo a)) hk v
  rw [← ha] at happly
  have hmark : isMarkAddr (low13 a) = false := (outside_slots (by omega)).1
  by_cases hkeeps : s.keepsProfile k = true
  · rw [if_pos hkeeps, exec_write_one hi hs (by omega), State.commit_one_kept _ _ _ _ hmark (happly.trans (if_pos hkeeps))]
  · rw [if_neg hkeeps, exec_byte_dropped hi hs (by omega) hmark (happly.trans (if_neg hkeeps))]

/-- A profile byte behind the cells-fitted of the strings changes the profile alone. -/
theorem State.writeProfile_eng {s : State} {k : Nat} (hs : s.calm) (hk : 9 < k) (v : Byte) :
    (s.writeProfile k v).eng = s.eng := by
  by_cases h : profileByte s.profile k = v
  · rw [State.writeProfile_equal s k v h]
  · have hplain (new : Profile) : s.eng.profileChanged s.profile new k v = s.eng := by
      rw [Engine.profileChanged, if_neg (by omega), dif_neg (by omega)]
    rw [State.writeProfile_change h, State.act_plain _ _ ((congrArg Engine.agenda (hplain _)).trans hs.1)
      ((congrArg Engine.raised (hplain _)).trans hs.2)]
    exact hplain _

/-! ## The supply state that is handed (R90) -/

/-- With no context busy, no context has a cause. -/
theorem Engine.causeTo_idle {e : Engine} (h : ∀ c, e.ctx c = none) (f : Round → Bool) (x : Cause) : e.causeTo f x = [] :=
  List.filterMap_eq_nil_iff.mpr fun c _ => by simp only [h c]

/-- The blocks once the qualifier has taken the latest sample. -/
def Engine.qualified (e : Engine) (time : Nat) : Engine :=
  { e with supply := e.supply.sample time (latestLines e.latest), qualifierOwed := none }

/-- A sample that leaves the supply state hands nothing. -/
theorem Engine.qualify_same {e : Engine} (p : Profile) {time : Nat}
    (h : (e.qualified time).supply.state = e.supply.state) : e.qualify p time = e.qualified time :=
  if_neg (not_not_intro h)

/-- With no order queued and no context busy, a supply state that has changed is handed to the alert unit alone. -/
theorem Engine.leads_qualify_changed {e : Engine} (p : Profile) (hq : e.board.queue = []) (hn : ∀ c, e.ctx c = none)
    {time : Nat} (h : (e.qualified time).supply.state ≠ e.supply.state) :
    (e.qualify p time).Leads p 1 ((e.qualified time).raise .supplyChange) := by
  let lost : Round → Bool := (e.qualified time).losesSupply p (e.qualified time).supply.state
  have hwork : (e.qualified time).causeTo lost .supplyLost ++ [.scan] = [.scan] := by
    rw [Engine.causeTo_idle (e := e.qualified time) hn]; rfl
  have hqualify : e.qualify p time = ((e.qualified time).raise .supplyChange).hand [.scan] := by
    rw [← hwork]
    exact if_pos h
  rw [hqualify]
  exact Engine.leads_scan_empty p [] hq

/-- Settles O37: the rule of each line and of the supply state, a write of the qualify time, and what is handed. -/
theorem supplyChangeIsHanded : Obligations.SupplyChangeIsHanded := by
  unfold Obligations.SupplyChangeIsHanded
  refine ⟨fun s x time hs ho hx => ?_, fun s i a v hs hc hi ha => ?_, fun s hs hb => ⟨fun ho => ?_, fun time ho => ?_⟩⟩
  · have hu : s.settleQualifier.eng.supply = s.eng.supply.sample time x.lines := by
      rw [State.settleQualifier_supply hs.2 ho, hx]; rfl
    refine ⟨_, exec_supplyLineQualified hs.1, ?_, ?_, s.settleQualifier_nothing_owed⟩
    · rw [hu]
      exact ⟨qualifyLine_rule _ _ _ _, qualifyLine_rule _ _ _ _⟩
    · rw [hu]; rfl
  · refine ⟨_, exec_profileByte (k := 0x24) hi hs (by decide) ha, ?_⟩
    split
    · exact State.writeProfile_eng (s := s.echo a) hc (by decide) v
    · rfl
  · rw [exec_supplyLineQualified hs.1, State.settleQualifier_settled ho]
  · intro u
    rw [exec_supplyLineQualified hs.1, State.settleQualifier_owed ho]
    refine congrArg Host.Outcome.next ?_
    by_cases h : u.state = s.eng.supply.state
    · rw [if_pos h]
      exact State.act_leads_quiet (.of_eq (Engine.qualify_same s.profile h)) (by decide) hs.2.1 hs.2.2
    · rw [if_neg h]
      have hraised : (s.eng.qualified time).raised = [] := hs.2.2
      have hl := Engine.leads_qualify_changed s.profile hb.1 hb.2 h
      rw [Engine.raise, hraised, List.nil_append] at hl
      exact State.act_leads_raised (f := fun e => e.qualify s.profile time) (e := s.eng.qualified time) hl (by decide)
        hs.2.1 hs.2.2

end Sys2Proof.Machine
end
section
/-! SUPPORT. GO_DORMANT: when the part is at rest, and what the command leaves (R175, R176, R190 to R193). -/

namespace Sys2Proof.Machine

/-! ## The conditions of DORMANT (R190) -/

theorem Engine.noOrders_iff {e : Engine} :
    e.noOrders = true ↔ ∀ n : SlotId, (e.slot n).mark ≠ .queued ∧ (e.slot n).mark ≠ .running := by
  simp [Engine.noOrders, mem_allSlots]

theorem Engine.selectorsRest_iff {e : Engine} {p : Profile} : e.selectorsRest p = true ↔
    ∀ g : StringId, isFitted p g = true → (e.str g).sel = .atLoad ∧ (e.str g).stranded = false := by
  rw [Engine.selectorsRest, List.all_eq_true]
  refine ⟨fun h g hg => by simpa [hg] using h g (mem_allStrings g), fun h g _ => ?_⟩
  cases hg : isFitted p g with
  | false => rfl
  | true => simp [h g hg]

/-- The part is at rest as R190 says it. -/
theorem State.mayRest_iff {s : State} : s.mayRest = true ↔
    (∀ n : SlotId, (s.eng.slot n).mark ≠ .queued ∧ (s.eng.slot n).mark ≠ .running) ∧ s.alert.status = 0
      ∧ (∀ g : StringId, isFitted s.profile g = true → (s.eng.str g).sel = .atLoad ∧ (s.eng.str g).stranded = false)
      ∧ (s.eng.line.state = .asleep ∨ s.eng.line.state = .off) ∧ s.eng.board.standingDown = false := by
  simp only [State.mayRest, Bool.and_eq_true, Bool.or_eq_true, beq_iff_eq, Bool.not_eq_true', Engine.noOrders_iff,
    Engine.selectorsRest_iff, and_assoc]

/-! ## The command (R175, R176) -/

theorem sends_goDormant (w : WriteBurst) : Sends (.goDormant w) w := by simp [Sends]

/-- With no arrival owed, a GO_DORMANT is judged in pass 1 and again at the end of its commit. -/
theorem exec_goDormant {s : State} {a : BitVec 16} (hs : s.linkUp) (ha : low13 a = 0x0004)
    (hq : s.eng.qualifierOwed = none) :
    exec (.goDormant ⟨a, [0x02]⟩) s = .next (Commit.start (s.echo a)).takeDormant.endHoldoff.endDormant.finish := by
  rw [exec_of_sends (sends_goDormant _), State.transact_linkUp s _ hs, State.settleFor_settled s _ hq, State.serve,
    framing_one]
  dsimp only
  rw [State.shiftOut_one, State.commit_one_plain _ _ _ (outside_slots (by omega)).1, ha]
  rfl

/-- A part at rest passes both judgements and enters DORMANT. -/
theorem takeDormant_rests {s : State} (h : s.mayRest = true) :
    (Commit.start s).takeDormant.endHoldoff.endDormant.finish = (s.readBack 0x80).enterDormant.ended false := by
  have hstart : (Commit.start s).st.mayRest = true := h
  have hagain : (s.readBack 0x80).mayRest = true := h
  rw [Commit.takeDormant, if_pos hstart]
  show (Commit.endDormant { Commit.start s with st := s.readBack 0x80, dormantPending := true }).finish = _
  rw [Commit.endDormant, if_pos rfl, if_pos hagain]
  rfl

/-- A part that is not at rest refuses at the first judgement. -/
theorem takeDormant_refused {s : State} (h : ¬ s.mayRest = true) :
    (Commit.start s).takeDormant.endHoldoff.endDormant.finish = s.refuseDormant.ended false := by
  have hstart : ¬ (Commit.start s).st.mayRest = true := h
  rw [Commit.takeDormant, if_neg hstart]
  rfl

/-! ## The arrival that is taken first (log 11) -/

@[simp] theorem Alert.capture_power (x : Alert) (ev : Event) : (x.capture ev).power = x.power := by
  unfold Alert.capture
  split <;> rfl

/-- No event moves the part between ACTIVE and DORMANT. -/
theorem Alert.captures_power (evs : List Event) (x : Alert) : (evs.foldl Alert.capture x).power = x.power := by
  induction evs generalizing x with
  | nil => rfl
  | cons ev evs ih => exact (ih _).trans (x.capture_power ev)

theorem State.act_linkUp {s : State} (f : Engine → Engine) (h : s.linkUp) : (s.act f).linkUp :=
  ⟨h.1, (Alert.captures_power _ _).trans h.2⟩

theorem State.linkUp_awake {s : State} (h : s.linkUp) : s.awake = true := by
  have hheld : s.held = none := by
    have hdeaf := h.1
    simp only [State.linkDeaf, Bool.or_eq_false_iff, Option.isSome_eq_false_iff, Option.isNone_iff_eq_none] at hdeaf
    exact hdeaf.1
  exact State.awake_iff.mpr ⟨hheld, h.2⟩

/-- A GO_DORMANT is as it would be once the qualifier has taken what it owes. -/
theorem exec_goDormant_settles {s : State} {a : BitVec 16} (hs : s.linkUp) (ha : low13 a = 0x0004) {time : Nat}
    (ho : s.eng.qualifierOwed = some time) :
    exec (.goDormant ⟨a, [0x02]⟩) s = exec (.goDormant ⟨a, [0x02]⟩) s.settleQualifier := by
  have hup : s.settleQualifier.linkUp := by rw [State.settleQualifier_owed ho]; exact State.act_linkUp _ hs
  have hfirst : s.settleFor (WriteBurst.raw ⟨a, [0x02]⟩) = s.settleQualifier := by
    simp only [State.settleFor, framing_one, appliedBytes_one, ha]
    rfl
  rw [exec_of_sends (sends_goDormant _), exec_of_sends (sends_goDormant _), State.transact_linkUp s _ hs,
    State.transact_linkUp _ _ hup, hfirst, State.settleFor_settled _ _ s.settleQualifier_nothing_owed]

/-- Settles O17: an arrival that is owed is taken first; with none owed, the part is at rest or it is not. -/
theorem dormancyIsEnteredAtRest : Obligations.DormancyIsEnteredAtRest := by
  unfold Obligations.DormancyIsEnteredAtRest
  intro s a hs ha
  refine ⟨fun ho => ?_, fun ho => ?_⟩
  · obtain ⟨time, ho⟩ := Option.ne_none_iff_exists'.mp ho
    exact ⟨_, exec_supplyLineQualified (State.linkUp_awake hs), s.settleQualifier_nothing_owed,
      exec_goDormant_settles hs ha ho⟩
  · intro rest
    have hrest : (s.echo a).mayRest = true ↔ rest := State.mayRest_iff
    rw [exec_goDormant hs ha ho]
    refine ⟨fun h => ?_, fun h => ?_⟩
    · rw [takeDormant_rests (hrest.mpr h)]
      refine congrArg Host.Outcome.next ?_
      simp only [State.enterDormant, State.readBack_eng, State.echo_eng]
      rw [← ho]
      rfl
    · rw [takeDormant_refused (mt hrest.mp h)]
      rfl

end Sys2Proof.Machine
end

section
/-! SUPPORT. The rest-ended event of a string, and the context in REST_WAIT that takes it (R112, R146, R151 to R154). -/

namespace Sys2Proof.Machine

/-! ## The event and the work it hands over (R94, R112) -/

theorem Engine.restEnded_unarmed {e : Engine} {g : StringId} (active : Bool) (h : (e.str g).restArmed = false) :
    e.restEnded active g = e := by
  simp [Engine.restEnded, h]

/-- The event that is reached is raised, and is not to come again. -/
theorem Engine.restEnded_reached {e : Engine} {g : StringId} (active : Bool) (h : (e.str g).restArmed = true)
    (hdue : (e.clock - (e.str g).restUntil).toNat < 2 ^ 31) :
    e.restEnded active g = (e.putStr g { e.str g with restArmed := false }).hand e.restWork := by
  simp only [Engine.restEnded, h, if_true, Engine.due_reached active hdue]
  rfl

/-- What all but one context leave out, the one alone brings. -/
theorem filterMap_allCtxs_one {α : Type} {f : CtxId → Option α} {c : CtxId} (h : ∀ d, d ≠ c → f d = none) :
    allCtxs.filterMap f = (f c).toList := by
  obtain ⟨hsplit, hfirst, hlast⟩ := allCtxs_split c
  rw [hsplit, List.filterMap_append, List.filterMap_cons, List.filterMap_eq_nil_iff.mpr fun d hd => h d (hfirst d hd),
    List.filterMap_eq_nil_iff.mpr fun d hd => h d (hlast d hd)]
  cases f c <;> rfl

/-- With no context in REST_WAIT the board alone has the event. -/
theorem Engine.restWork_none {e : Engine} (h : ∀ c r, e.ctx c = some r → r.phase ≠ .restWait) : e.restWork = [.scan] := by
  refine congrArg (Work.scan :: ·) (List.filterMap_eq_nil_iff.mpr fun c _ => ?_)
  cases hc : e.ctx c with
  | none => rfl
  | some r => exact if_neg (h c r hc)

/-- The one busy context has the event where it is in REST_WAIT. -/
theorem Engine.restWork_one {e : Engine} {c : CtxId} {r : Round} (hc : e.ctx c = some r)
    (halone : ∀ d, d ≠ c → e.ctx d = none) (hp : r.phase = .restWait) : e.restWork = [.scan, .restOver c r.slot] := by
  refine congrArg (Work.scan :: ·) ((filterMap_allCtxs_one (c := c) fun d hd => ?_).trans ?_)
  · simp only [halone d hd]
  · simp only [hc, hp, if_true, Option.toList_some]

/-! ## The context's choice (R151) -/

theorem oneString_getLsbD (g k : StringId) : (oneString g).getLsbD k.val = decide (k = g) := by
  revert g k; decide

/-- Its only remaining string being rested, a context in REST_WAIT begins that string. -/
theorem Engine.restOver_begins {e : Engine} (p : Profile) (c : CtxId) {r : Round} {g : StringId} (hp : r.phase = .restWait)
    (hm : r.remaining = oneString g) (hr : (e.str g).rested e.clock = true) :
    e.restOver p c r = e.beginWater p c r g := by
  have hg : r.remaining.getLsbD g.val = true := by rw [hm, oneString_getLsbD]; exact decide_eq_true rfl
  have hmin (k : StringId) (hk : k < g) : r.remaining.getLsbD k.val = false := by
    rw [hm, oneString_getLsbD]; exact decide_eq_false hk.ne
  have hsome : (e.restedString r).isSome = true :=
    List.find?_isSome.mpr ⟨g, mem_allStrings g, by simp only [hasString, hg, hr, Bool.and_self]⟩
  rw [Engine.restOver, if_pos ⟨hp, hsome⟩, Engine.chooseWater_begins hg hmin hr]

/-- The event leads the one busy context, in REST_WAIT for that string alone, to begin it. -/
theorem Engine.leads_restOver (p : Profile) {e : Engine} {c : CtxId} {r : Round} {g : StringId} (hq : e.board.queue = [])
    (hc : e.ctx c = some r) (hp : r.phase = .restWait) (hm : r.remaining = oneString g)
    (hr : (e.str g).rested e.clock = true) :
    (e.hand [.scan, .restOver c r.slot]).Leads p 2 (e.beginWater p c r g) := by
  refine (Engine.leads_scan_empty p _ hq).trans (.step ?_ (.refl p _))
  simp only [Engine.work, Engine.hand_nil, Engine.withRound, hc, if_true, Engine.restOver_begins p c hp hm hr]

/-- The path opens for a holder whose string is AT_LOAD and rested, with no valve open and no coast running (R146). -/
theorem Engine.canOpen_of {e : Engine} {c : CtxId} {g : StringId} (hw : e.claims.water = some c)
    (hb : e.water.state = .busy) (hv : e.water.valve = none) (hn : e.water.coast = none) (ho : e.owner g = some c)
    (hs : (e.str g).sel = .atLoad) (hr : (e.str g).rested e.clock = true) : e.canOpen c g = true := by
  simp [Engine.canOpen, hw, hb, hv, hn, ho, hs, hr]

/-- Settles O38: the event with no context in REST_WAIT, the two ways the one context begins its string, and the string
with no event to come. -/
theorem restEndsOnce : Obligations.RestEndsOnce := by
  unfold Obligations.RestEndsOnce
  intro s g hs
  refine ⟨fun harmed hdue hq => ?_, fun harmed => ?_⟩
  · let x : StringRec := { s.eng.str g with restArmed := false }
    let e := s.eng.putStr g x
    have hx : e.str g = x := s.eng.str_putStr_same g x
    have ends {n : Nat} {t : Engine} (hl : (e.hand s.eng.restWork).Leads s.profile n t) (hn : n ≤ 1000)
        (ha : t.agenda = []) (hr : t.raised = []) : exec (.restEnded g) s = .next { s with eng := t } := by
      rw [← Engine.restEnded_reached s.awake harmed hdue] at hl
      exact congrArg Host.Outcome.next ((State.whenFree_attending s _ hs).trans
        (State.act_leads_quiet (f := fun e => e.restEnded s.awake g) hl hn ha hr))
    refine ⟨fun hnone => ?_, fun c r hc halone hp hm hrest hsel => ?_⟩
    · rw [Engine.restWork_none hnone] at ends
      exact ends (Engine.leads_scan_empty s.profile [] hq) (by decide) hs.2.1 hs.2.2
    · have hrested : (e.str g).rested e.clock = true := by rw [hx]; exact decide_eq_true hrest
      have hload : (e.str g).sel = .atLoad := by rw [hx]; exact hsel
      have hcount : (e.str g).censusCount = posCount (s.eng.str g).censusSet := by rw [hx]; rfl
      have hl : (e.hand s.eng.restWork).Leads s.profile 2 (e.beginWater s.profile c r g) := by
        rw [Engine.restWork_one hc halone hp]
        exact Engine.leads_restOver s.profile hq hc hp hm hrested
      refine ⟨fun hlow hline => ?_, fun hlow hwater howner hbusy hvalve hcoast => ?_⟩
      · rw [Engine.beginWater_level hload hlow hline, hcount] at hl
        exact ends hl (by decide) hs.2.1 hs.2.2
      · rw [Engine.beginWater_prime hload hlow hbusy
          (Engine.canOpen_of hwater hbusy hvalve hcoast howner hload hrested), hcount] at hl
        exact ends hl (by decide) hs.2.1 hs.2.2
  · have hfree : s.held = none := (State.awake_iff.mp hs.1).1
    exact congrArg Host.Outcome.next (State.whenFree_unchanged hfree hs.2 (Engine.restEnded_unarmed s.awake harmed))

end Sys2Proof.Machine
end

section
/-! SUPPORT. The laws of the outputs: whatever the blocks do, at most one string is commanded to EQUALISE, the pump runs
exactly while a valve is open, and the charger is enabled only while its claim is held (R96, R99, R115, R146). Each lemma
follows its operation piece by piece. -/

namespace Sys2Proof.Machine

/-! ## What it is to uphold the laws -/

/-- Each law of the outputs that holds of the blocks at first holds of them later. -/
structure Engine.Upholds (e f : Engine) : Prop where
  equalise : e.oneEqualise → f.oneEqualise
  pump : e.pumpOk → f.pumpOk
  charger : e.chargerOk → f.chargerOk

/-- What the laws of the outputs speak of. -/
def Engine.governed (e : Engine) : Vector StringRec 8 × Charger × Option CtxId × Bool × Option StringId :=
  (e.strings, e.charger, e.claims.charger, e.water.pump, e.water.valve)

section
variable {e₀ e : Engine} {p : Profile} {c : CtxId} {r : Round}

theorem Engine.Upholds.refl (e : Engine) : e.Upholds e := ⟨id, id, id⟩

theorem Engine.Upholds.trans {f : Engine} (h : e₀.Upholds e) (h' : e.Upholds f) : e₀.Upholds f :=
  ⟨h'.equalise ∘ h.equalise, h'.pump ∘ h.pump, h'.charger ∘ h.charger⟩

/-- Blocks that differ in nothing the laws speak of. -/
theorem Engine.Upholds.same {f : Engine} (h : e₀.Upholds e) (hf : f.governed = e.governed) : e₀.Upholds f := by
  simp only [Engine.governed, Prod.mk.injEq] at hf
  obtain ⟨hstrings, hcharger, hclaim, hpump, hvalve⟩ := hf
  refine h.trans ⟨fun he => ?_, fun he => ?_, fun he => ?_⟩
  · simpa only [Engine.oneEqualise, Engine.str, hstrings] using he
  · rwa [Engine.pumpOk, hpump, hvalve]
  · rwa [Engine.chargerOk, hcharger, hclaim]

/-- What both ways uphold, a choice between them upholds. -/
theorem Engine.Upholds.ite {q : Prop} [Decidable q] {a b : Engine} (ha : e₀.Upholds a) (hb : e₀.Upholds b) :
    e₀.Upholds (if q then a else b) := by split <;> assumption

/-- What each piece of a list upholds, the whole upholds. -/
theorem Engine.Upholds.foldl {α : Type} {f : Engine → α → Engine} (h : e₀.Upholds e)
    (hf : ∀ e x, e₀.Upholds e → e₀.Upholds (f e x)) (l : List α) : e₀.Upholds (l.foldl f e) := by
  induction l generalizing e with
  | nil => exact h
  | cons x l ih => exact ih (hf e x h)

/-- A CLEAR commands no selector (R109). -/
theorem StringRec.clear_commanded (x : StringRec) : x.clear.commanded = x.commanded := by
  unfold StringRec.clear
  split
  · split <;> rfl
  · rfl

section
variable (h : e₀.Upholds e)
include h

/-- What is done with a context's round upholds what it upholds for every round. -/
theorem Engine.Upholds.withRound {n : SlotId} {f : Round → Engine → Engine} (hf : ∀ r, e₀.Upholds (f r e)) :
    e₀.Upholds (e.withRound c n f) := by
  unfold Engine.withRound
  split
  · exact (hf _).ite h
  · exact h

/-! ## Records -/

theorem Engine.Upholds.hand (ws : List Work) : e₀.Upholds (e.hand ws) := h.same rfl
theorem Engine.Upholds.raise (ev : Event) : e₀.Upholds (e.raise ev) := h.same rfl
theorem Engine.Upholds.putRound (d : Round) : e₀.Upholds (e.putRound c d) := h.same rfl
theorem Engine.Upholds.putCell (g : StringId) (q : Position) (x : Cell) : e₀.Upholds (e.putCell g q x) := h.same rfl
theorem Engine.Upholds.holdEntry (g : StringId) : e₀.Upholds (e.holdEntry g) := h.same rfl
theorem Engine.Upholds.modSlot (n : SlotId) (f : Slot → Slot) : e₀.Upholds (e.modSlot n f) := h.same rfl
theorem Engine.Upholds.modBoard (f : Board → Board) : e₀.Upholds (e.modBoard f) := h.same rfl
theorem Engine.Upholds.modLine (f : Line → Line) : e₀.Upholds (e.modLine f) := h.same rfl
theorem Engine.Upholds.releaseString (g : StringId) : e₀.Upholds (e.releaseString g) := h.same rfl

/-- A change of a string's record that does not command the string to EQUALISE. -/
theorem Engine.Upholds.modStr {g : StringId} {f : StringRec → StringRec}
    (hf : (f (e.str g)).commanded = .equalise → (e.str g).commanded = .equalise) : e₀.Upholds (e.modStr g f) := by
  have hback (k : StringId) : ((e.modStr g f).str k).commanded = .equalise → (e.str k).commanded = .equalise := by
    by_cases hk : k = g
    · rw [hk, Engine.modStr_same]; exact hf
    · rw [Engine.modStr, Engine.str_putStr_other _ _ hk]; exact id
  exact h.trans ⟨fun he k j hk hj => he k j (hback k hk) (hback j hj), id, id⟩

theorem Engine.Upholds.putCensus (g : StringId) (x : Census) (set : PosSet) : e₀.Upholds (e.putCensus g x set) :=
  h.modStr id

/-! ## Clock events (R94) -/

theorem Engine.Upholds.due {active : Bool} {t : Clock} {f : Engine} (hf : e.due active t = some f) : e₀.Upholds f := by
  unfold Engine.due at hf
  split_ifs at hf
  · cases hf; exact h
  · cases hf; exact h.same rfl

/-! ## Cells (chapter 4) -/

theorem Engine.Upholds.flagCell (g : StringId) (q : Position) (f : Byte) : e₀.Upholds (e.flagCell g q f) :=
  ((h.putCell g q _).raise _).ite (h.putCell g q _)

theorem Engine.Upholds.flagDry (g : StringId) (set : List Position) : e₀.Upholds (e.flagDry g set) :=
  have hset := h.foldl (fun _ _ he => he.putCell g _ _) set
  (hset.raise _).ite hset

theorem Engine.Upholds.missCell (g : StringId) (q : Position) : e₀.Upholds (e.missCell g q) :=
  ((h.putCell g q _).flagCell g q _).ite (h.putCell g q _)

theorem Engine.Upholds.missAccounting (missing : AddrSet) : e₀.Upholds (e.missAccounting missing) :=
  h.foldl (fun _ g he => (he.foldl (fun _ _ hq => hq.missCell g _) _).ite he) _

/-! ## Selectors (chapter 6) -/

/-- A transfer that begins to anywhere but EQUALISE. -/
theorem Engine.Upholds.beginTransfer (g : StringId) (x : SelState) {d : Drive} (hd : d ≠ .equalise) (o : Option Contact) :
    e₀.Upholds (e.beginTransfer p g x d o) := h.modStr fun hx => absurd hx hd

/-- A transfer to EQUALISE begins only where no other string is commanded there (R99). -/
theorem Engine.Upholds.beginEqualise {g : StringId} (hother : e.otherAtEq g = false) (o : Option Contact) :
    e₀.Upholds (e.beginTransfer p g .goingEq .equalise o) := by
  have honly (k : StringId) (hk : ((e.beginTransfer p g .goingEq .equalise o).str k).commanded = .equalise) : k = g := by
    by_contra hne
    rw [Engine.beginTransfer, Engine.modStr, Engine.str_putStr_other _ _ hne] at hk
    have hno := List.any_eq_false.mp hother k (mem_allStrings k)
    simp [hne, hk] at hno
  exact h.trans ⟨fun _ k j hk hj => (honly k hk).trans (honly j hj).symm, id, id⟩

/-- A transfer request: only the one to EQUALISE commands a string there, and it looks at the others first (R99). -/
theorem Engine.Upholds.requestTransfer (g : StringId) (b : Bool) (d : Drive) :
    e₀.Upholds (e.requestTransfer p c g b d).2 := by
  unfold Engine.requestTransfer
  split
  · exact h
  · split
    · split
      · exact h.beginTransfer g _ (by decide) _
      · exact h
    · exact h.beginTransfer g _ (by decide) _
    · split
      · exact h
      · rename_i hother
        exact h.beginEqualise (Bool.eq_false_iff.mpr hother) _
    · exact h.beginTransfer g _ (by decide) _
    · exact h

theorem Engine.Upholds.requested {g : StringId} {b : Bool} {d : Drive} {a : Answer} {f : Engine}
    (hf : e.requestTransfer p c g b d = (a, f)) : e₀.Upholds f := by
  have hrequest := h.requestTransfer (p := p) (c := c) g b d
  rwa [hf] at hrequest

/-- Whatever the answer to a transfer of the current string, the blocks that come with it uphold the laws. -/
theorem Engine.Upholds.asked {b : Bool} {d : Drive} {a : Answer} {f : Engine}
    (hf : e.askTransfer p c r b d = (a, f)) : e₀.Upholds f := by
  unfold Engine.askTransfer at hf
  split at hf
  · exact h.requested hf
  · cases hf; exact h

theorem Engine.Upholds.faultString (g : StringId) : e₀.Upholds (e.faultString p g) :=
  ((h.modStr fun hload : Drive.load = .equalise => nomatch hload).raise _).hand _

theorem Engine.Upholds.completeTransfer (g : StringId) (x : SelState) (d : Drive) :
    e₀.Upholds (e.completeTransfer g x d) := by
  have hstr := h.modStr (g := g) (f := fun y =>
    { y with sel := x, timer := none, origin := none, stranded := if d = .load then false else y.stranded }) id
  unfold Engine.completeTransfer
  dsimp only
  split
  · split
    · exact hstr.hand _
    · exact hstr
  · exact hstr

theorem Engine.Upholds.feedback (g : StringId) (shown : Contact) : e₀.Upholds (e.feedback p g shown) := by
  have hstr := h.modStr (g := g) (f := fun y => { y with observed := shown }) id
  unfold Engine.feedback
  dsimp only
  refine hstr.ite ?_
  split
  · exact (hstr.completeTransfer g _ _).ite (hstr.ite (hstr.faultString g))
  · exact hstr.ite (hstr.ite (hstr.faultString g))

theorem Engine.Upholds.strand (g : StringId) : e₀.Upholds (e.strand g) := ((h.modStr id).raise _).ite h

/-! ## The charger (chapter 7) -/

/-- ENABLE is taken from the holder of the claim alone (R115). -/
theorem Engine.Upholds.chargerEnable (v l : Nat) : e₀.Upholds (e.chargerEnable c v l) := by
  unfold Engine.chargerEnable
  split
  · rename_i hc
    exact h.trans ⟨id, id, fun _ _ => by simp [hc]⟩
  · exact h

theorem Engine.Upholds.chargerSet (v : Nat) : e₀.Upholds (e.chargerSet c v) := by
  unfold Engine.chargerSet
  split
  · exact h.trans ⟨id, id, id⟩
  · exact h

theorem Engine.Upholds.chargerDisable : e₀.Upholds (e.chargerDisable c) := by
  unfold Engine.chargerDisable
  split
  · exact h.trans ⟨id, id, fun _ => nofun⟩
  · exact h

/-! ## The water path (chapter 8) -/

theorem Engine.Upholds.openValve (g : StringId) : e₀.Upholds (e.openValve g) := h.trans ⟨id, fun _ => rfl, id⟩

theorem Engine.Upholds.closeValve : e₀.Upholds (e.closeValve p) := by
  unfold Engine.closeValve
  split
  · exact h.trans ⟨id, fun _ => rfl, id⟩
  · exact h

theorem Engine.Upholds.faultPath (x : PathCause) : e₀.Upholds (e.faultPath p x) :=
  (h.closeValve.same (f := { e.closeValve p with water := { (e.closeValve p).water with state := .faulted, cause := x } })
    rfl).raise _

/-! ## The cell line (chapter 3) -/

theorem Engine.Upholds.enterWaking : e₀.Upholds e.enterWaking := h.modLine _

theorem Engine.Upholds.faultLine (x : LineCause) : e₀.Upholds (e.faultLine p x) := ((h.modLine _).raise _).hand _

theorem Engine.Upholds.startSweep : e₀.Upholds (e.startSweep p) := by
  unfold Engine.startSweep
  split
  · exact h
  · dsimp only
    split
    · exact (h.modLine _).modLine _
    · exact ((h.modLine _).modLine _).hand _

theorem Engine.Upholds.nextSweep : e₀.Upholds (e.nextSweep p) := ((h.modLine _).ite h.startSweep).ite h

theorem Engine.Upholds.requestSweep (n : SlotId) (m : StringMask) (u : Purpose) :
    e₀.Upholds (e.requestSweep p c n m u) := by
  unfold Engine.requestSweep
  split
  · exact h.hand _
  · exact h.hand _
  · exact (h.modLine _).enterWaking
  · exact h.modLine _
  · exact (h.modLine _).startSweep.ite (h.modLine _)

theorem Engine.Upholds.withdrawSweep : e₀.Upholds (e.withdrawSweep c) := h.modLine _

theorem Engine.Upholds.afterGuardFailed : e₀.Upholds (e.afterGuardFailed p) :=
  ((h.modLine _).faultLine _).ite (h.modLine _).nextSweep

theorem Engine.Upholds.afterSweep (silent : Bool) : e₀.Upholds (e.afterSweep p silent) := (h.modLine _).nextSweep

theorem Engine.Upholds.deliverSweep (w : Sweep) (silent : Bool) : e₀.Upholds (e.deliverSweep w silent) :=
  ((((h.raise _).ite h).modLine _).missAccounting _).hand _

theorem Engine.Upholds.endSweep (w : Sweep) : e₀.Upholds (e.endSweep p w) :=
  ((h.modLine _).faultLine _).ite (h.deliverSweep w _)

theorem Engine.Upholds.badFrame : e₀.Upholds (e.badFrame p) := ((h.modLine _).faultLine _).ite (h.modLine _)

theorem Engine.Upholds.strayFrame : e₀.Upholds e.strayFrame := h.modLine _

theorem Engine.Upholds.storeReading (w : Sweep) (x : Reading) (q : Position) : e₀.Upholds (e.storeReading p w x q) :=
  (h.putCell _ q _).flagCell _ q _

theorem Engine.Upholds.goodReply (w : Sweep) (x : Reading) (q : Position) : e₀.Upholds (e.goodReply p w x q) :=
  (((h.storeReading w x q).modLine _).endSweep _).ite ((h.storeReading w x q).modLine _)

theorem Engine.Upholds.soundFrame (x : Reading) : e₀.Upholds (e.soundFrame p x) := by
  unfold Engine.soundFrame
  split
  · exact (h.goodReply _ x _).ite h.strayFrame
  · exact h.strayFrame

theorem Engine.Upholds.classify (bytes : List Byte) : e₀.Upholds (e.classify p bytes) := by
  unfold Engine.classify
  split
  · exact (h.soundFrame _).ite h.badFrame
  · exact h.badFrame

theorem Engine.Upholds.received (bytes : List Byte) : e₀.Upholds (e.received p bytes) := (h.classify bytes).ite h

theorem Engine.Upholds.wakePatternSent : e₀.Upholds (e.wakePatternSent p) := (h.modLine _).ite h

theorem Engine.Upholds.wakeSettleEnd : e₀.Upholds (e.wakeSettleEnd p) := (h.modLine _).nextSweep.ite h

theorem Engine.Upholds.idleExpiry : e₀.Upholds e.idleExpiry := (h.modLine _).ite h

theorem Engine.Upholds.sleepSent : e₀.Upholds e.sleepSent := by
  unfold Engine.sleepSent
  split
  · exact (h.modLine _).ite (h.modLine _).enterWaking
  · exact h

theorem Engine.Upholds.callSent : e₀.Upholds (e.callSent p) := by
  unfold Engine.callSent
  split
  · exact h.modLine _
  · exact h

theorem Engine.Upholds.windowEnd : e₀.Upholds (e.windowEnd p) := by
  unfold Engine.windowEnd
  split
  · exact h.endSweep _
  · exact h

theorem Engine.Upholds.recoveryExpiry : e₀.Upholds e.recoveryExpiry := ((h.modLine _).enterWaking.hand _).ite h

theorem Engine.Upholds.wakeFromOff : e₀.Upholds e.wakeFromOff := (h.modLine _).ite h

/-! ## The board and the claims (chapter 1) -/

theorem Engine.Upholds.refavour : e₀.Upholds e.refavour := by
  unfold Engine.refavour
  split
  · exact h
  · exact h.modBoard _

theorem Engine.Upholds.enterQueue (n : SlotId) : e₀.Upholds (e.enterQueue n) := h.same rfl

theorem Engine.Upholds.leaveQueue (n : SlotId) : e₀.Upholds (e.leaveQueue n) := (h.modBoard _).refavour

theorem Engine.Upholds.countPassed (l : List SlotId) : e₀.Upholds (e.countPassed l) :=
  (h.foldl (fun _ n he => he.modSlot n _) l).refavour

/-- An order that needs the charger takes its claim, and no other order gives it up (R16). -/
theorem Engine.Upholds.takeClaims (y : Slot) : e₀.Upholds (e.takeClaims c y) := by
  refine h.trans ⟨id, fun he => ?_, fun he hon => ?_⟩
  · show (if _ then _ else e.water : Water).pump = (if _ then _ else e.water : Water).valve.isSome
    split <;> exact he
  · show (if usesCharger y then some c else e.claims.charger) ≠ none
    split
    · simp
    · exact he hon

theorem Engine.Upholds.dispatch (n : SlotId) (k : Kind) : e₀.Upholds (e.dispatch c n k) :=
  ((((h.takeClaims _).putRound _).modSlot n _).leaveQueue n).countPassed _

theorem Engine.Upholds.walkOne (n : SlotId) (rest : List SlotId) : e₀.Upholds (e.walkOne p n rest) := by
  unfold Engine.walkOne
  split
  · exact ((h.dispatch n _).hand _).ite (h.hand _)
  · exact h.hand _

theorem Engine.Upholds.settleQueued (n : SlotId) (o : OrderOutcome) (x : Cause) : e₀.Upholds (e.settleQueued n o x) :=
  ((h.modSlot n _).leaveQueue n).raise _

theorem Engine.Upholds.releasePath : e₀.Upholds (e.releasePath p c) := by
  unfold Engine.releasePath
  split
  · exact h.closeValve.same rfl
  · exact h

/-- A context's claims are released, the charger disabled first where it is the holder (R31). -/
theorem Engine.Upholds.freeContext : e₀.Upholds (e.freeContext p c) := by
  obtain ⟨w, hw, -⟩ := (e.chargerDisable c).releasePath_eq p c
  have hpath : e₀.Upholds ((e.chargerDisable c).releasePath p c) := h.chargerDisable.releasePath
  refine ⟨hpath.equalise, hpath.pump, fun he hon => ?_⟩
  rw [Engine.freeContext, hw] at hon ⊢
  by_cases hc : e.claims.charger = some c
  · rw [Engine.chargerDisable_holder hc] at hon
    cases hon
  · have hno : e.chargerDisable c = e := if_neg hc
    have hkept : (e.claims.dropCtx c).charger = e.claims.charger := if_neg hc
    rw [hno] at hon ⊢
    show (e.claims.dropCtx c).charger ≠ none
    rw [hkept]
    exact h.charger he hon

theorem Engine.Upholds.endStandDown : e₀.Upholds e.endStandDown := ((h.modBoard _).raise _).ite h

theorem Engine.Upholds.finish (d : Round) : e₀.Upholds (e.finish p c d) :=
  ((h.modSlot _ _).raise _).freeContext.endStandDown.hand _

/-- The charger's claim is released with the charger disabled (R31). -/
theorem Engine.Upholds.releaseCharger : e₀.Upholds (e.releaseCharger c) := by
  by_cases hc : e.claims.charger = some c
  · rw [Engine.releaseCharger, Engine.chargerDisable_holder hc, if_pos hc]
    exact h.trans ⟨id, id, fun _ => nofun⟩
  · have hno : e.chargerDisable c = e := if_neg hc
    rw [Engine.releaseCharger, hno, if_neg hc]
    exact h

/-! ## Mark requests (chapter 1) -/

theorem Engine.Upholds.clearCells (y : Slot) (g : StringId) : e₀.Upholds (e.clearCells p y g) :=
  h.foldl (fun _ q he => he.putCell g q _) _

theorem Engine.Upholds.clearWater : e₀.Upholds e.clearWater := .ite (by exact h.same rfl) h

theorem Engine.Upholds.clearScopes (y : Slot) : e₀.Upholds (e.clearScopes p y) := by
  have hcells := (h.foldl (fun _ g he => he.clearCells (p := p) y g) (stringsOf (orderMask y))).ite (q := scopeCells y) h
  have hstrings := (hcells.foldl (fun e g he => he.modStr (g := g) (f := StringRec.clear)
    (e.str g).clear_commanded.symm.trans) (stringsOf (orderMask y))).ite (q := scopeStrings y) hcells
  have hwater := hstrings.clearWater.ite (q := scopeWater y) hstrings
  exact (hwater.modLine _).ite hwater

theorem Engine.Upholds.executeClear (n : SlotId) : e₀.Upholds (e.executeClear p n) :=
  (((h.clearScopes _).modSlot n _).raise _).hand _

theorem Engine.Upholds.queueOrder (n : SlotId) : e₀.Upholds (e.queueOrder n) :=
  (((h.modSlot n _).modBoard _).enterQueue n).hand _

theorem Engine.Upholds.post (n : SlotId) : e₀.Upholds (e.post p n) := by
  unfold Engine.post
  split
  · exact h.modSlot n _
  · exact (h.executeClear n).ite (h.queueOrder n)

theorem Engine.Upholds.withdrawRunning (n : SlotId) : e₀.Upholds (e.withdrawRunning n) := by
  unfold Engine.withdrawRunning
  split
  · exact h
  · split
    · exact (h.modSlot n _).hand _
    · exact h.modSlot n _

theorem Engine.Upholds.markRequest {n : SlotId} {v : Byte} {f : Engine} (hf : e.markRequest p n v = some f) :
    e₀.Upholds f := by
  unfold Engine.markRequest at hf
  split at hf <;> cases hf
  · exact h.post n
  · exact h.modSlot n _
  · exact h.modSlot n _
  · exact (h.settleQueued n _ _).hand _
  · exact h.withdrawRunning n
  · exact h.modSlot n _

theorem Engine.Upholds.startByExpiry (active : Bool) (n : SlotId) : e₀.Upholds (e.startByExpiry active n) := by
  unfold Engine.startByExpiry
  split
  · split
    · rename_i hdue
      exact ((h.due hdue).settleQueued n _ _).hand _
    · exact h
  · exact h

theorem Engine.Upholds.censusReport (g : StringId) : e₀.Upholds (e.censusReport g) := by
  unfold Engine.censusReport
  split
  · exact (h.settleQueued _ _ _).hand _
  · exact h

theorem Engine.Upholds.standDownNext : e₀.Upholds e.standDownNext := by
  unfold Engine.standDownNext
  split
  · exact (h.settleQueued _ _ _).hand _
  · exact h.hand _

theorem Engine.Upholds.standDownCheck : e₀.Upholds e.standDownCheck := (h.modBoard _).ite (h.raise _)

/-! ## Strings that close (chapter 7) -/

theorem Engine.Upholds.primaryHistory (d : Round) (g : StringId) (o : Outcome) :
    e₀.Upholds (e.primaryHistory p d g o) := ((h.modStr id).ite (h.modStr id)).ite h

theorem Engine.Upholds.closePrimary (d : Round) (g : StringId) (o : Outcome) :
    e₀.Upholds (e.closePrimary p c d g o) :=
  have hround := (h.primaryHistory (p := p) d g o).putRound (c := c) _
  (hround.hand _).ite ((hround.releaseString g).hand _)

theorem Engine.Upholds.closeCurrent (d : Round) (o : Outcome) : e₀.Upholds (e.closeCurrent p c d o) := by
  unfold Engine.closeCurrent
  split
  · exact h.closePrimary d _ o
  · exact h

theorem Engine.Upholds.closeStranded (d : Round) : e₀.Upholds (e.closeStranded p c d) := by
  unfold Engine.closeStranded
  split
  · exact (h.strand _).closePrimary d _ _
  · exact h

theorem Engine.Upholds.closeFaulted (d : Round) : e₀.Upholds (e.closeFaulted p c d) :=
  h.withdrawSweep.chargerDisable.closeCurrent d _

/-! ## EQUALISE and RETURN (chapter 7) -/

theorem Engine.Upholds.toLoad (d : Round) : e₀.Upholds (e.toLoad p c d) := by
  unfold Engine.toLoad
  dsimp only
  split <;> rename_i hask
  · exact (h.chargerDisable.asked hask).putRound d
  · exact (h.chargerDisable.asked hask).closeFaulted d

theorem Engine.Upholds.returnFromOpen (d : Round) : e₀.Upholds (e.returnFromOpen p c d) := h.toLoad _

theorem Engine.Upholds.enterReturning (d : Round) (stranding : Bool) : e₀.Upholds (e.enterReturning p c d stranding) := by
  unfold Engine.enterReturning
  dsimp only
  split <;> rename_i hask
  · exact (h.asked hask).putRound _
  · exact (h.asked hask).closeFaulted _

theorem Engine.Upholds.strandingReturn (d : Round) : e₀.Upholds (e.strandingReturn p c d) :=
  h.chargerDisable.enterReturning d true

theorem Engine.Upholds.enterMatch (d : Round) : e₀.Upholds (e.enterMatch c d) :=
  (h.withdrawSweep.putRound _).chargerSet _

theorem Engine.Upholds.endIntoMatch (d : Round) (o : Outcome) : e₀.Upholds (e.endIntoMatch c d o) := h.enterMatch _

theorem Engine.Upholds.enterIsolating (d : Round) : e₀.Upholds (e.enterIsolating p c d) := by
  unfold Engine.enterIsolating
  dsimp only
  split
  · exact h
  · split <;> rename_i hrequest
    · exact ((h.requested hrequest).modStr id).putRound _
    · exact (h.requested hrequest).closePrimary _ _ _
    · exact (h.requested hrequest).closePrimary _ _ _

theorem Engine.Upholds.enterPrecharge (d : Round) : e₀.Upholds (e.enterPrecharge c d) :=
  (h.putRound _).chargerEnable _ _

theorem Engine.Upholds.giveUpReturn (d : Round) : e₀.Upholds (e.giveUpReturn p c d) := h.chargerDisable.closeStranded d

theorem Engine.Upholds.enterConnecting (d : Round) : e₀.Upholds (e.enterConnecting p c d) := by
  unfold Engine.enterConnecting
  dsimp only
  split <;> rename_i hask
  · exact (h.asked hask).putRound _
  · exact ((h.asked hask).giveUpReturn _).ite ((h.asked hask).returnFromOpen _)

theorem Engine.Upholds.enterRamp (d : Round) : e₀.Upholds (e.enterRamp p c d) := (h.putRound _).chargerSet _

theorem Engine.Upholds.sweepCurrent (d : Round) (u : Purpose) : e₀.Upholds (e.sweepCurrent p c d u) := by
  unfold Engine.sweepCurrent
  split
  · exact h.requestSweep _ _ _
  · exact h

theorem Engine.Upholds.enterHold (d : Round) : e₀.Upholds (e.enterHold p c d) := by
  unfold Engine.enterHold
  split
  · exact ((h.holdEntry _).putRound _).sweepCurrent _ _
  · exact (h.putRound _).sweepCurrent _ _

theorem Engine.Upholds.dueHoldSweep (d : Round) : e₀.Upholds (e.dueHoldSweep p c d) :=
  (h.putRound _).ite ((h.putRound _).sweepCurrent _ _)

theorem Engine.Upholds.judgeHold (d : Round) : e₀.Upholds (e.judgeHold c d) :=
  (h.endIntoMatch _ _).ite ((h.endIntoMatch _ _).ite (h.putRound _))

theorem Engine.Upholds.beginString (d : Round) (g : StringId) : e₀.Upholds (e.beginString p c d g) :=
  (h.closePrimary _ g _).ite (((h.putRound _).sweepCurrent _ _).ite ((h.putRound _).sweepCurrent _ _))

/-! ## Watering (chapter 8) -/

theorem Engine.Upholds.closeWater (d : Round) (o : Outcome) : e₀.Upholds (e.closeWater c d o) := by
  unfold Engine.closeWater
  split
  · exact h
  · rename_i g _
    have hhistory := h.modStr (g := g) (f := fun x => x.watered d.waterVolume e.clock) id
    have hround := (hhistory.ite (q := d.enteredPrime) h).putRound (c := c)
    exact (((hround _).releaseString _).hand _).ite ((hround _).hand _)

theorem Engine.Upholds.enterPrime (d : Round) : e₀.Upholds (e.enterPrime c d) := by
  unfold Engine.enterPrime
  dsimp only
  split
  · exact h.closeWater _ _
  · exact h.closeWater _ _
  · exact ((h.openValve _).putRound _).ite (h.closeWater _ _)
  · exact h

theorem Engine.Upholds.beginWater (d : Round) (g : StringId) : e₀.Upholds (e.beginWater p c d g) :=
  (h.closeWater _ _).ite (((h.putRound _).sweepCurrent _ _).ite (h.enterPrime _))

theorem Engine.Upholds.chooseWater (d : Round) : e₀.Upholds (e.chooseWater p c d) := by
  unfold Engine.chooseWater
  split
  · exact h.beginWater d _
  · exact h.putRound _

theorem Engine.Upholds.endPrimary (d : Round) : e₀.Upholds (e.endPrimary p c d) :=
  ((h.releaseCharger.hand _).chooseWater _).ite (h.releaseCharger.finish _) |>.ite (h.finish d)

theorem Engine.Upholds.advance (d : Round) : e₀.Upholds (e.advance p c d) := by
  refine (h.finish d).ite (((h.finish d).ite (h.chooseWater d)).ite ?_)
  split
  · exact h.beginString d _
  · exact h.endPrimary d

/-! ## SURVEY (section 4.7) -/

theorem Engine.Upholds.enterCensus (d : Round) : e₀.Upholds (e.enterCensus p c d) :=
  ((h.foldl (fun _ g he => he.putCensus g _ _) _).putRound _).requestSweep _ _ _

theorem Engine.Upholds.beginRound (d : Round) : e₀.Upholds (e.beginRound p c d) := by
  unfold Engine.beginRound
  split
  · exact (h.enterCensus d).ite ((h.putRound _).requestSweep _ _ _)
  · exact (h.finish d).ite (h.chooseWater d)
  · exact h.advance d

theorem Engine.Upholds.abortSurvey (d : Round) : e₀.Upholds (e.abortSurvey c d) :=
  ((h.withdrawSweep.putRound _).foldl (fun _ g he => he.putCensus g _ _) _).hand _

theorem Engine.Upholds.censusString (k : Nat) (d : Round) (g : StringId) (got : PosSet) :
    e₀.Upholds (e.censusString p k d g got).2.1 := by
  have hset := fun x => h.putCensus g x got
  have hshort := (hset .established).modStr (g := g) (f := fun x => x.setFlag sfShortCensus) id
  unfold Engine.censusString
  split_ifs
  · exact hset _
  · exact hshort
  · exact hset _
  · exact hset _
  · exact hset _

theorem Engine.Upholds.censusStrings (k : Nat) (replied : AddrSet) (l : List StringId) (d : Round) (ws : List Work) :
    e₀.Upholds (Engine.censusStrings p k replied l (d, e, ws)).2.1 := by
  induction l generalizing e d ws with
  | nil => exact h
  | cons g l ih => exact ih (h.censusString k d g _) _ _

theorem Engine.Upholds.censusCompletion (d : Round) (q : Request) (replied : AddrSet) :
    e₀.Upholds (e.censusCompletion p c d q replied) :=
  have hround := (h.censusStrings (p := p) (sweepLimit (e.slot d.slot)) replied (stringsOf q.mask) d []).putRound (c := c) _
  (hround.hand _).ite ((hround.requestSweep _ _ _).hand _)

theorem Engine.Upholds.surveyCompletion (d : Round) : e₀.Upholds (e.surveyCompletion p c d) :=
  ((h.putRound _).requestSweep _ _ _).ite ((h.putRound _).hand _)

/-! ## Site causes (R35) -/

theorem Engine.Upholds.endFill (d : Round) (o : Outcome) : e₀.Upholds (e.endFill p c d o) := h.closeValve.putRound _

theorem Engine.Upholds.bringToRest (d : Round) (x : Cause) : e₀.Upholds (e.bringToRest p c d x) := by
  unfold Engine.bringToRest
  split
  · exact (h.withdrawSweep.closeStranded d).ite (h.abortSurvey d)
  · exact h.abortSurvey d
  · exact h.withdrawSweep.closeCurrent d _
  · exact h.putRound _
  · exact (h.giveUpReturn d).ite (h.returnFromOpen _)
  · exact (h.putRound d).ite (h.putRound _)
  · exact h.endIntoMatch d _
  · exact h.endIntoMatch d _
  · exact h.putRound d
  · exact h.putRound d
  · exact h.finish d
  · exact h.withdrawSweep.closeWater d _
  · exact (h.putRound d).ite (h.endFill d _)
  · exact (h.putRound d).ite (h.endFill d _)
  · exact h.closeWater d _
  · exact h.withdrawSweep.closeWater d _
  · exact h.putRound d

theorem Engine.Upholds.takeCause (d : Round) (x : Cause) : e₀.Upholds (e.takeCause p c d x) :=
  (h.putRound _).ite (h.bringToRest _ x)

/-! ## Completions and notices -/

theorem Engine.Upholds.checkCompletion (d : Round) (g : StringId) (missing : AddrSet) :
    e₀.Upholds (e.checkCompletion p c d g missing) :=
  (h.closePrimary d g _).ite ((h.closePrimary d g _).ite (((h.modStr id).closePrimary d g _).ite (h.enterIsolating _)))

theorem Engine.Upholds.holdOn (d : Round) (g : StringId) : e₀.Upholds (e.holdOn p c d g) :=
  have hset := h.chargerSet (c := c) _
  (hset.endIntoMatch _ _).ite ((hset.dueHoldSweep _).ite (hset.putRound _))

theorem Engine.Upholds.holdCompletion (d : Round) (g : StringId) : e₀.Upholds (e.holdCompletion p c d g) :=
  (h.endIntoMatch d _).ite ((h.endIntoMatch d _).ite ((h.endIntoMatch d _).ite (h.holdOn d g)))

theorem Engine.Upholds.estimateCompletion (d : Round) (g : StringId) (replied : AddrSet) :
    e₀.Upholds (e.estimateCompletion p c d g replied) := (h.closeStranded d).ite ((h.modStr id).enterPrecharge _)

theorem Engine.Upholds.levelCompletion (d : Round) (g : StringId) (missing : AddrSet) :
    e₀.Upholds (e.levelCompletion c d g missing) := (h.enterPrime d).ite (h.closeWater d _)

theorem Engine.Upholds.verifyCompletion (d : Round) (g : StringId) (replied missing : AddrSet) :
    e₀.Upholds (e.verifyCompletion c d g replied missing) :=
  ((h.flagDry g _).closeWater d _).ite ((h.closeWater d _).ite (h.closeWater d _))

theorem Engine.Upholds.failedSweep (d : Round) (u : Purpose) : e₀.Upholds (e.failedSweep p c d u) := by
  unfold Engine.failedSweep
  split
  · exact h.enterPrime d
  · exact h.closeWater d _
  · exact h.takeCause d _

theorem Engine.Upholds.completeSweep (d : Round) (q : Request) (replied missing : AddrSet) :
    e₀.Upholds (e.completeSweep p c d q replied missing) := by
  unfold Engine.completeSweep
  split
  · exact h.surveyCompletion d
  · exact h.censusCompletion d q replied
  · exact h.checkCompletion d _ missing
  · exact h.holdCompletion d _
  · exact h.estimateCompletion d _ replied
  · exact h.levelCompletion d _ missing
  · exact h.verifyCompletion d _ replied missing
  · exact h.putRound d

theorem Engine.Upholds.completion (q : Request) (ok : Bool) (replied missing : AddrSet) :
    e₀.Upholds (e.completion p q ok replied missing) :=
  h.withRound fun _ => ((h.completeSweep _ q replied missing).ite (h.failedSweep _ _)).ite h

theorem Engine.Upholds.transferDone (d : Round) (x : Drive) : e₀.Upholds (e.transferDone p c d x) := by
  unfold Engine.transferDone
  split
  · exact (h.returnFromOpen d).ite (h.enterPrecharge d)
  · refine (h.enterMatch d).ite (.ite ?_ (h.enterRamp d))
    dsimp only
    split <;> rename_i hask
    · exact (h.chargerDisable.asked hask).putRound _
    · exact (h.chargerDisable.asked hask).closeFaulted _
  · exact h.returnFromOpen _
  · exact (h.closeStranded d).ite (h.toLoad d)
  · exact h.closeCurrent d _
  · exact h

theorem Engine.Upholds.faultNotice (d : Round) : e₀.Upholds (e.faultNotice p c d) := by
  unfold Engine.faultNotice
  split
  case h_1 | h_2 => exact h.withdrawSweep.closeCurrent d _
  case h_3 | h_4 | h_5 | h_6 | h_7 | h_8 | h_9 => exact h.closeFaulted d
  case h_10 => exact h.withdrawSweep.closeWater d _
  case h_11 | h_12 => exact h.ite (h.endFill d _)
  case h_13 => exact h

/-! ## Samples (chapter 5) -/

theorem Engine.Upholds.qualify (time : Nat) : e₀.Upholds (e.qualify p time) :=
  ((((h.same (f := { e with supply := e.supply.sample time (latestLines e.latest), qualifierOwed := none }) rfl).raise
    _).hand _)).ite (h.same rfl)

theorem Engine.Upholds.chargerArrival (prev : Lines) : e₀.Upholds (e.chargerArrival prev) := (h.hand _).ite h

theorem Engine.Upholds.boardArrival (prev : Lines) : e₀.Upholds (e.boardArrival prev) := (h.hand _).ite h

theorem Engine.Upholds.emptyPath : e₀.Upholds (e.emptyPath p) :=
  (h.closeValve.same (f := { e.closeValve p with water := { (e.closeValve p).water with state := .empty } }) rfl).hand _

theorem Engine.Upholds.refillPath : e₀.Upholds e.refillPath := by
  unfold Engine.refillPath
  dsimp only
  split
  · exact .hand (by exact h.same rfl) _
  · exact .hand (by exact h.same rfl) _

theorem Engine.Upholds.waterArrival (prev : Lines) : e₀.Upholds (e.waterArrival p prev) := by
  have hlow := (h.raise .resLow).ite (q := (latestLines e.latest).resLow && !prev.resLow) h
  have hempty := (hlow.raise .resEmpty).ite (q := (latestLines e.latest).resEmpty && !prev.resEmpty) hlow
  exact ((hempty.emptyPath.ite hempty).ite (hempty.refillPath.ite hempty))

theorem Engine.Upholds.prechargeSample (d : Round) (x : Sample) : e₀.Upholds (e.prechargeSample p c d x) :=
  (h.giveUpReturn d).ite ((h.enterConnecting d).ite h)

theorem Engine.Upholds.rampSample (d : Round) (x : Sample) : e₀.Upholds (e.rampSample p c d x) :=
  (h.enterHold _).ite (h.putRound _)

theorem Engine.Upholds.matchSample (d : Round) (x : Sample) : e₀.Upholds (e.matchSample p c d x) :=
  (h.strandingReturn d).ite ((h.enterReturning d false).ite (h.chargerSet _))

theorem Engine.Upholds.ctxArrival : e₀.Upholds (e.ctxArrival p c) := by
  unfold Engine.ctxArrival
  split
  · split
    · exact h.prechargeSample _ _
    · exact h.rampSample _ _
    · exact h.judgeHold _
    · exact h.matchSample _ _
    · exact h
  · exact h

theorem Engine.Upholds.arrival (k : Consumer) (prev : Lines) : e₀.Upholds (e.arrival p k prev) := by
  cases k with
  | qualifier => exact h.qualify _
  | context c => exact h.ctxArrival
  | charger => exact h.chargerArrival prev
  | board => exact h.boardArrival prev
  | water => exact h.waterArrival prev

theorem Engine.Upholds.takeSample (x : Readings) (order : List Consumer) : e₀.Upholds (e.takeSample p x order) :=
  .hand (by exact h.same rfl) _

/-! ## Timers and flow pulses (chapters 7 and 8) -/

theorem Engine.Upholds.phaseTimer {active : Bool} {ph : Phase} {t : Round → Clock} {f : Round → Engine → Engine}
    (hf : ∀ d e, e₀.Upholds e → e₀.Upholds (f d e)) : e₀.Upholds (e.phaseTimer active c ph t f) := by
  unfold Engine.phaseTimer
  split
  · split
    · split
      · rename_i hdue
        exact hf _ _ (h.due hdue)
      · exact h
    · exact h
  · exact h

theorem Engine.Upholds.prechargeTimeout (active : Bool) : e₀.Upholds (e.prechargeTimeout p active c) :=
  h.phaseTimer fun d _ he => (he.giveUpReturn d).ite (he.returnFromOpen _)

theorem Engine.Upholds.rampTimeout (active : Bool) : e₀.Upholds (e.rampTimeout p active c) :=
  h.phaseTimer fun d _ he => he.endIntoMatch d _

theorem Engine.Upholds.holdInterval (active : Bool) : e₀.Upholds (e.holdInterval p active c) :=
  h.phaseTimer fun _ _ he => he.dueHoldSweep _

theorem Engine.Upholds.holdTimeLimit (active : Bool) : e₀.Upholds (e.holdTimeLimit active c) :=
  h.phaseTimer fun _ _ he => he.judgeHold _

theorem Engine.Upholds.matchTimeout (active : Bool) : e₀.Upholds (e.matchTimeout p active c) :=
  h.phaseTimer fun d _ he => he.strandingReturn d

theorem Engine.Upholds.fillPulse (d : Round) : e₀.Upholds (e.fillPulse p c d) := by
  unfold Engine.fillPulse
  dsimp only
  split
  · exact h.putRound _
  · exact ((h.modStr id).endFill _ _).ite (h.putRound _)
  · exact h

theorem Engine.Upholds.idlePulse : e₀.Upholds (e.idlePulse p) :=
  have hcount := h.same (f := { e with water := { e.water with idle := bump 3 e.water.idle } }) rfl
  ((hcount.faultPath _).hand _).ite hcount

theorem Engine.Upholds.flowPulse : e₀.Upholds (e.flowPulse p) := by
  unfold Engine.flowPulse
  split
  · exact h.fillPulse _
  · exact h.putRound _
  · exact h.ite h.idlePulse
  · exact h

theorem Engine.Upholds.dryExpiry (active : Bool) : e₀.Upholds (e.dryExpiry p active c) :=
  h.phaseTimer fun _ _ he => he.ite ((he.closeValve.hand _).ite ((he.closeValve.faultPath _).hand _))

theorem Engine.Upholds.stopExpiry (active : Bool) : e₀.Upholds (e.stopExpiry p active c) :=
  h.phaseTimer fun d _ he => he.ite (he.endFill d _)

theorem Engine.Upholds.fillTimeout (active : Bool) : e₀.Upholds (e.fillTimeout p active c) :=
  h.phaseTimer fun d _ he => he.ite (he.endFill d _)

theorem Engine.Upholds.verifyExpiry (active : Bool) : e₀.Upholds (e.verifyExpiry p active c) :=
  h.phaseTimer fun _ _ he => (he.putRound _).sweepCurrent _ _

theorem Engine.Upholds.afterCoast (d : Round) : e₀.Upholds (e.afterCoast c d) := by
  unfold Engine.afterCoast
  split
  · exact ((h.closeWater d _).ite (h.putRound _)).ite (h.closeWater d _)
  · exact h.closeWater d _
  · exact h

theorem Engine.Upholds.coastOver : e₀.Upholds e.coastOver := by
  unfold Engine.coastOver
  split
  · exact (h.afterCoast _).ite h
  · exact h

theorem Engine.Upholds.coastEnded (active : Bool) : e₀.Upholds (e.coastEnded active) := by
  unfold Engine.coastEnded
  split
  · split
    · rename_i f hdue
      exact ((h.due hdue).same (f := { f with water := { f.water with coast := none } }) rfl).coastOver
    · exact h
  · exact h

theorem Engine.Upholds.transferTimeout (g : StringId) : e₀.Upholds (e.transferTimeout p g) := (h.faultString g).ite h

theorem Engine.Upholds.settlingReading : e₀.Upholds (e.settlingReading p) :=
  ((h.same (f := { e with settling := none }) rfl).foldl (fun _ g he => (he.faultString g).ite he) _).ite h

theorem Engine.Upholds.restEnded (active : Bool) (g : StringId) : e₀.Upholds (e.restEnded active g) := by
  unfold Engine.restEnded
  split
  · split
    · rename_i hdue
      exact ((h.due hdue).modStr id).hand _
    · exact h
  · exact h

theorem Engine.Upholds.restOver (d : Round) : e₀.Upholds (e.restOver p c d) := (h.chooseWater d).ite h

/-! ## Any work -/

theorem Engine.Upholds.work (w : Work) : e₀.Upholds (e.work p w) := by
  cases w with
  | scan => exact h.ite (h.hand _)
  | walk l =>
    cases l with
    | nil => exact h
    | cons n l => exact h.walkOne n l
  | beginRound c n => exact h.withRound (f := fun d e => e.beginRound p c d) fun d => h.beginRound d
  | arrival k prev => exact h.arrival k prev
  | cause c n x => exact h.withRound (f := fun d e => e.takeCause p c d x) fun d => h.takeCause d x
  | completion q ok replied missing => exact h.completion q ok replied missing
  | received bytes => exact h.received bytes
  | guardFailed => exact h.afterGuardFailed
  | sweepDone silent => exact h.afterSweep silent
  | transferDone c n g d => exact h.withRound fun _ => (h.transferDone _ d).ite h
  | faultNotice c n g => exact h.withRound fun d => (h.faultNotice d).ite h
  | censusLost g => exact h.censusReport g
  | standDownNext => exact h.standDownNext
  | standDownCheck => exact h.standDownCheck
  | advance c n => exact h.withRound (f := fun d e => e.advance p c d) fun d => h.advance d
  | restOver c n => exact h.withRound fun d => h.restOver d

theorem Engine.Upholds.drain (k : Nat) : e₀.Upholds (Engine.drain p k e) :=
  Engine.drain_keeps (P := e₀.Upholds) (fun e w ws _ he => (he.same (f := { e with agenda := ws }) rfl).work w) k h

end
end

end Sys2Proof.Machine
end

section
/-! SUPPORT. Every command upholds the laws of the outputs, keeps the link's words among their defined values and leaves
no work waiting (R96, R99, R115, R146, R177, R197; log 15). -/

namespace Sys2Proof.Machine

/-- What holds of the part at first, of its outputs, the link's words and the work that waits, holds of it later. -/
structure State.Upholds (s t : State) : Prop where
  blocks : s.eng.Upholds t.eng
  words : s.link.wordsOk → t.link.wordsOk
  calm : s.calm → t.calm

section
variable {s₀ s : State}

theorem State.Upholds.refl (s : State) : s.Upholds s := ⟨.refl _, id, id⟩

/-- What both ways uphold, a choice between them upholds. -/
theorem State.Upholds.ite {q : Prop} [Decidable q] {t u : State} (ht : s₀.Upholds t) (hu : s₀.Upholds u) :
    s₀.Upholds (if q then t else u) := by split <;> assumption

section
variable (h : s₀.Upholds s)
include h

/-- A part with the same blocks and the same mode and lock words. -/
theorem State.Upholds.same {t : State} (heng : t.eng = s.eng) (hmode : t.link.portMode = s.link.portMode)
    (hlock : t.link.lock = s.link.lock) : s₀.Upholds t := by
  refine ⟨heng ▸ h.blocks, fun hw => ?_, fun hc => ?_⟩
  · rw [Link.wordsOk, hmode, hlock]
    exact h.words hw
  · rw [State.calm, heng]
    exact h.calm hc

/-- Blocks that change with no work handed over. -/
theorem State.Upholds.withEng {t : State} (he : s.eng.Upholds t.eng) (hagenda : t.eng.agenda = s.eng.agenda)
    (hraised : t.eng.raised = s.eng.raised) (hlink : t.link = s.link) : s₀.Upholds t := by
  refine ⟨h.blocks.trans he, fun hw => hlink ▸ h.words hw, fun hc => ?_⟩
  rw [State.calm, hagenda, hraised]
  exact h.calm hc

/-! ## What the blocks do -/

theorem State.Upholds.act {f : Engine → Engine} (hf : s.eng.Upholds (f s.eng)) : s₀.Upholds (s.act f) :=
  ⟨h.blocks.trans ((hf.drain _).same rfl), h.words, fun _ => ⟨rfl, rfl⟩⟩

theorem State.Upholds.whenFree {f : Engine → Engine} (hf : s.eng.Upholds (f s.eng)) : s₀.Upholds (s.whenFree f) :=
  (h.act hf).ite h

theorem State.Upholds.whenAwake {f : Engine → Engine} (hf : s.eng.Upholds (f s.eng)) : s₀.Upholds (s.whenAwake f) :=
  (h.act hf).ite h

theorem State.Upholds.wake (src : WakeSource) : s₀.Upholds (s.wake src) := .ite (h.same rfl rfl rfl) h

theorem State.Upholds.settleQualifier : s₀.Upholds s.settleQualifier := by
  unfold State.settleQualifier
  split
  · exact h.act ((Engine.Upholds.refl _).qualify _)
  · exact h

theorem State.Upholds.settleFor (t : RawTransaction) : s₀.Upholds (s.settleFor t) := by
  unfold State.settleFor
  split
  · exact h.settleQualifier.ite h
  · exact h

/-! ## Control commands and profile bytes -/

theorem State.Upholds.signal (ev : Event) : s₀.Upholds (s.signal ev) := h.same rfl rfl rfl

theorem State.Upholds.readBack (v : Byte) : s₀.Upholds (s.readBack v) := h.same rfl rfl rfl

theorem State.Upholds.portError (v : Byte) : s₀.Upholds (s.portError v) := h.same rfl rfl rfl

theorem State.Upholds.takeStandDown : s₀.Upholds s.takeStandDown :=
  (h.readBack _).ite ((h.readBack _).act (Engine.Upholds.refl _).standDownNext)

/-- A passing confirmation writes the copies of cells-fitted and may wake the line: it commands no selector. -/
theorem State.Upholds.confirmPass : s₀.Upholds s.confirmPass := by
  have hcopied : s.eng.Upholds (s.eng.copyCells s.profile).wakeFromOff :=
    ((Engine.Upholds.refl _).foldl (fun _ g he => he.modStr (g := g) id) _).wakeFromOff
  have hwork : (s.eng.copyCells s.profile).wakeFromOff.agenda = s.eng.agenda
      ∧ (s.eng.copyCells s.profile).wakeFromOff.raised = s.eng.raised := by
    rw [Engine.wakeFromOff_eq, Engine.copyCells_eq]
    exact ⟨rfl, rfl⟩
  exact (h.readBack 0x80).withEng hcopied hwork.1 hwork.2 rfl

theorem State.Upholds.takeConfirm : s₀.Upholds s.takeConfirm := by
  unfold State.takeConfirm
  split
  · exact h.confirmPass
  · exact h.same rfl rfl rfl

theorem State.Upholds.writeProfile (k : Nat) (v : Byte) : s₀.Upholds (s.writeProfile k v) := by
  unfold State.writeProfile
  split
  · exact h
  · dsimp only
    refine State.Upholds.act (by exact h.same rfl rfl rfl) ?_
    have hrefl := Engine.Upholds.refl s.eng
    unfold Engine.profileChanged
    split
    · refine hrefl.foldl (fun e g he => .ite ?_ he) _
      unfold Engine.joinMask
      split
      · exact he.ite (he.faultString g)
      · exact he
    · split
      · exact ((hrefl.modStr id).putCensus _ _ _).hand _
      · exact hrefl

end

/-! ## The commit (R172 to R174) -/

section
variable {m : Commit} (h : s₀.Upholds m.st)
include h

theorem State.Upholds.drop : s₀.Upholds m.drop.st := by
  unfold Commit.drop
  split
  · exact h
  · exact h.portError 2

theorem State.Upholds.control (v : Byte) : s₀.Upholds (m.control v).st := by
  unfold Commit.control Commit.takeDormant
  split
  · exact h.takeStandDown
  · split
    · split
      · exact h.readBack _
      · exact (h.readBack _).signal _
    · split
      · exact h.takeConfirm
      · exact h.drop

theorem State.Upholds.clearStatus (high : Bool) (v : Byte) : s₀.Upholds (m.clearStatus high v).st := by
  unfold Commit.clearStatus
  dsimp only
  split
  · exact h.same rfl rfl rfl
  · exact h.same rfl rfl rfl

theorem State.Upholds.body (n : SlotId) (off : Nat) (v : Byte) : s₀.Upholds (m.body n off v).st := by
  unfold Commit.body
  split
  · exact h.withEng ((Engine.Upholds.refl _).same rfl) rfl rfl rfl
  · exact h.drop

/-- The port mode word takes defined values alone (R197). -/
theorem State.Upholds.portMode {v : Byte} (hv : portModeOk v = true) :
    s₀.Upholds (m.onLink fun l => { l with portMode := v }).st :=
  ⟨h.blocks, fun hw => ⟨hv, (h.words hw).2⟩, h.calm⟩

/-- The lock word takes defined values alone (R177). -/
theorem State.Upholds.lock {v : Byte} (hv : v = 0x00 ∨ v = 0xA5) :
    s₀.Upholds (m.onLink fun l => { l with lock := v }).st :=
  ⟨h.blocks, fun hw => ⟨(h.words hw).1, hv⟩, h.calm⟩

theorem State.Upholds.apply (x : Nat × Byte) : s₀.Upholds (m.apply x).st := by
  unfold Commit.apply
  dsimp only
  split
  · split
    · rename_i hv
      exact h.portMode hv
    · exact h.drop
  · split
    · exact h.control _
    · split
      · split
        · rename_i hv
          exact h.lock hv
        · exact h.drop
      · split
        · exact h.same rfl rfl rfl
        · split
          · exact h.clearStatus _ _
          · split
            · exact h.same rfl rfl rfl
            · split
              · split
                · exact h.writeProfile _ _
                · exact h.drop
              · split
                · exact h.body _ _ _
                · exact h.drop

theorem State.Upholds.mark (x : Nat × Byte) : s₀.Upholds (m.mark x).st := by
  unfold Commit.mark
  split
  · rename_i hmark
    exact State.Upholds.act (f := fun _ => _) h ((Engine.Upholds.refl _).markRequest hmark)
  · exact h.portError 3

/-- What every byte of a pass upholds, the pass upholds. -/
theorem State.Upholds.pass {f : Commit → Nat × Byte → Commit} (hf : ∀ m x, s₀.Upholds m.st → s₀.Upholds (f m x).st)
    (bs : List (Nat × Byte)) : s₀.Upholds (bs.foldl f m).st := by
  induction bs generalizing m with
  | nil => exact h
  | cons x bs ih => exact ih (hf m x h)

theorem State.Upholds.endHoldoff : s₀.Upholds m.endHoldoff.st := by
  unfold Commit.endHoldoff
  split
  · exact h.same rfl rfl rfl
  · exact h

/-- The part that enters DORMANT drops its sample and the qualifier's counts alone (R191). -/
theorem State.Upholds.endDormant : s₀.Upholds m.endDormant.st := by
  unfold Commit.endDormant
  split
  · split
    · exact h.withEng ((Engine.Upholds.refl _).same rfl) rfl rfl rfl
    · exact (h.readBack _).signal _
  · exact h

end

theorem State.Upholds.commit (h : s₀.Upholds s) (w : WriteBurst) : s₀.Upholds (s.commit w) := by
  have hpasses : s₀.Upholds ((Commit.start s).passes (appliedBytes s.link.portMode w)).st :=
    State.Upholds.pass (State.Upholds.pass (m := Commit.start s) h (fun _ x hm => hm.apply x) _)
      (fun _ x hm => hm.mark x) _
  exact hpasses.endHoldoff.endDormant.same rfl rfl rfl

/-! ## Transactions and resets -/

theorem State.Upholds.serve (h : s₀.Upholds s) (t : RawTransaction) : s₀.Upholds (s.serve t) := by
  have hshift : s₀.Upholds (s.shiftOut t.bytes) := h.same rfl rfl rfl
  unfold State.serve
  split
  · exact h
  · exact hshift.same rfl rfl rfl
  · exact hshift.commit _
  · exact hshift.same rfl rfl rfl

theorem State.transact_upholds (s : State) (t : RawTransaction) : s.Upholds (s.transact t) :=
  .ite (.refl s) ((((State.Upholds.refl s).wake .link).settleFor t).serve t)

/-- A pin reset takes every selector to LOAD, closes every valve and disables the charger (R113, R115, R165). -/
theorem State.takePinReset_upholds (s : State) : s.Upholds s.takePinReset where
  blocks := {
    equalise := fun _ g k hg => by
      have hload : (s.eng.reset.str g).commanded = .load := congrArg StringRec.commanded (get_map _ _ g)
      exact absurd (hload.symm.trans hg) (by decide)
    pump := fun _ => rfl
    charger := fun _ => nofun }
  words := fun hw => ⟨(by decide : portModeOk 0 = true), hw.2⟩
  calm := fun _ => ⟨rfl, rfl⟩

theorem State.takePowerOn_upholds (s : State) : s.Upholds s.takePowerOn where
  blocks := {
    equalise := fun _ g k hg => by
      have hload : (s.eng.powerOnFrom.str g).commanded = .load := congrArg StringRec.commanded (get_map _ _ g)
      exact absurd (hload.symm.trans hg) (by decide)
    pump := fun _ => rfl
    charger := fun _ => nofun }
  words := fun _ => ⟨(by decide : portModeOk 0 = true), .inl rfl⟩
  calm := fun _ => ⟨rfl, rfl⟩

/-- A string that is caught in a round stays commanded where it was (R42). -/
theorem StringRec.examine_commanded (x : StringRec) (now : Clock) : (x.examine now).commanded = x.commanded := by
  unfold StringRec.examine
  split <;> rfl

/-- The part that leaves a reset commands no selector: it looks where they stand (R42, R113). -/
theorem State.leaveReset_upholds (s : State) (k : ResetKind) (csLow : Bool) (contacts : Vector Contact 8) :
    s.Upholds (s.leaveReset k csLow contacts) := by
  let left : Engine := { s.eng with
    strings := Vector.ofFn fun g => { (s.eng.str g).examine s.eng.clock with observed := contacts.get g },
    settling := some (fieldNat s.profile fldTransfer) }
  have hstr (g : StringId) : (left.str g).commanded = (s.eng.str g).commanded := by
    have hleft : left.str g = { (s.eng.str g).examine s.eng.clock with observed := contacts.get g } := get_ofFn _ g
    rw [hleft]
    exact (s.eng.str g).examine_commanded _
  have hleft : s.eng.Upholds left :=
    ⟨fun he g k hg hk => he g k ((hstr g).symm.trans hg) ((hstr k).symm.trans hk), id, id⟩
  have hleave : (s.leaveReset k csLow contacts).eng = if isConfirmed s.profile then left.wakeFromOff else left := rfl
  refine ⟨?_, id, fun hc => ?_⟩
  · rw [hleave]
    exact hleft.wakeFromOff.ite hleft
  · rw [State.calm, hleave, Engine.wakeFromOff_eq]
    split <;> exact hc

end

/-! ## Every command -/

/-- Whatever the command and the state, the command upholds the laws. -/
theorem exec_upholds (i : Instr) (s : State) : ∃ t, exec i s = .next t ∧ s.Upholds t := by
  have hs := State.Upholds.refl s
  have he := Engine.Upholds.refl s.eng
  cases i with
  | read | framingError | registerWrite | bodyWrite | profileWrite | eventStatusClear | standDown | goDormant
  | confirmProfile | post | release | withdraw => exact ⟨_, rfl, s.transact_upholds _⟩
  | startByExpiry n => exact ⟨_, rfl, hs.whenAwake (he.startByExpiry true n)⟩
  | restEnded g => exact ⟨_, rfl, hs.whenFree (he.restEnded _ g)⟩
  | sample r order =>
    exact ⟨_, rfl, (hs.settleQualifier.act ((Engine.Upholds.refl _).takeSample r order)).ite hs⟩
  | supplyLineQualified => exact ⟨_, rfl, hs.settleQualifier.ite hs⟩
  | holdTimeLimit c => exact ⟨_, rfl, hs.whenAwake (he.holdTimeLimit true)⟩
  | feedbackChange g shown => exact ⟨_, rfl, hs.whenFree (he.ite (he.feedback g shown))⟩
  | transferTimeout g => exact ⟨_, rfl, hs.whenFree (he.transferTimeout g)⟩
  | settlingReading => exact ⟨_, rfl, hs.whenFree he.settlingReading⟩
  | wakePatternSent => exact ⟨_, rfl, hs.whenAwake he.wakePatternSent⟩
  | wakeSettleEnd => exact ⟨_, rfl, hs.whenAwake he.wakeSettleEnd⟩
  | idleTimerExpiry => exact ⟨_, rfl, hs.whenAwake he.idleExpiry⟩
  | sleepSent => exact ⟨_, rfl, hs.whenAwake he.sleepSent⟩
  | callSent => exact ⟨_, rfl, hs.whenAwake he.callSent⟩
  | frameReceived levels => exact ⟨_, rfl, hs.whenAwake (he.hand _)⟩
  | sweepWindowEnd => exact ⟨_, rfl, hs.whenAwake he.windowEnd⟩
  | recoveryExpiry => exact ⟨_, rfl, hs.whenAwake he.recoveryExpiry⟩
  | prechargeTimeout c => exact ⟨_, rfl, hs.whenAwake (he.prechargeTimeout true)⟩
  | rampTimeout c => exact ⟨_, rfl, hs.whenAwake (he.rampTimeout true)⟩
  | holdIntervalExpiry c => exact ⟨_, rfl, hs.whenAwake (he.holdInterval true)⟩
  | matchTimeout c => exact ⟨_, rfl, hs.whenAwake (he.matchTimeout true)⟩
  | flowPulse => exact ⟨_, rfl, hs.whenFree he.flowPulse⟩
  | dryTimerExpiry c => exact ⟨_, rfl, hs.whenAwake (he.dryExpiry true)⟩
  | stopTimerExpiry c => exact ⟨_, rfl, hs.whenAwake (he.stopExpiry true)⟩
  | fillTimeout c => exact ⟨_, rfl, hs.whenAwake (he.fillTimeout true)⟩
  | coastEnded => exact ⟨_, rfl, hs.whenAwake (he.coastEnded true)⟩
  | verifyTimerExpiry c => exact ⟨_, rfl, hs.whenAwake (he.verifyExpiry true)⟩
  | holdoffExpiry => exact ⟨_, rfl, .ite (hs.same rfl rfl rfl) hs⟩
  | wakeTimerExpiry | supplyWake => exact ⟨_, rfl, (hs.wake _).ite hs⟩
  | powerOnReset edge =>
    cases edge with
    | taken => exact ⟨_, rfl, s.takePowerOn_upholds⟩
    | left csLow contacts => exact ⟨_, rfl, (s.leaveReset_upholds .powerOn csLow contacts).ite hs⟩
  | pinReset edge =>
    cases edge with
    | taken => exact ⟨_, rfl, s.takePinReset_upholds.ite hs⟩
    | left csLow contacts => exact ⟨_, rfl, (s.leaveReset_upholds .pin csLow contacts).ite hs⟩
  | partClockAdvance => exact ⟨_, rfl, hs.ite (hs.withEng (he.same rfl) rfl rfl rfl)⟩
  | csRiseAfterReset => exact ⟨_, rfl, .ite (hs.same rfl rfl rfl) hs⟩

/-- So does every step, with or without a command. -/
theorem stepsTo_upholds {s t : State} (h : stepsTo s t) : s.Upholds t := by
  unfold stepsTo step at h
  split at h
  · cases h
    exact .refl s
  · rename_i i rest _
    obtain ⟨u, hu, hup⟩ := exec_upholds i (s.withQueue rest)
    obtain rfl : u = t := Host.Outcome.next.inj (hu.symm.trans h)
    exact ⟨hup.blocks, hup.words, hup.calm⟩

/-- Settles O42: what every step keeps of the blocks. -/
theorem oneStringAtMostIsCommandedToEqualise : Obligations.OneStringAtMostIsCommandedToEqualise := by
  unfold Obligations.OneStringAtMostIsCommandedToEqualise
  exact fun s t hs ht => (stepsTo_upholds ht).blocks.equalise hs

/-- A selector's outputs for each position it may be commanded to (R96). -/
theorem StringRec.outputs_of_commanded (x : StringRec) :
    (x.commanded = .load → x.outputs = (false, false)) ∧ (x.commanded = .opened → x.outputs = (true, false))
      ∧ (x.commanded = .equalise → x.outputs = (true, true)) ∧ (x.outputs.2 = true → x.outputs.1 = true) := by
  unfold StringRec.outputs
  cases x.commanded <;> decide

/-- Settles O43: what every step keeps of the blocks, the link's words and the work that waits, and the outputs of each
commanded position. -/
theorem outputsAndWordsKeepTheirLaws : Obligations.OutputsAndWordsKeepTheirLaws := by
  unfold Obligations.OutputsAndWordsKeepTheirLaws
  refine ⟨fun s t ht => ?_, StringRec.outputs_of_commanded⟩
  obtain ⟨hblocks, hwords, hcalm⟩ := stepsTo_upholds ht
  exact ⟨hblocks.pump, hblocks.charger, hwords, hcalm⟩

end Sys2Proof.Machine
end

section
/-! SUPPORT. The reserve rule (R99 to R101), and a change of the fitted mask (R104, R110, R178). -/

namespace Sys2Proof.Machine

/-! ## The reserve rule (R99, R100) -/

/-- A request of a context that does not hold the string's claim is refused (R99). -/
theorem Engine.requestTransfer_notHolder {e : Engine} {p : Profile} {c : CtxId} {g : StringId} (h : e.owner g ≠ some c)
    (b : Bool) (d : Drive) : e.requestTransfer p c g b d = (.refused, e) := if_pos (by simp [h])

/-- The holder's request to leave LOAD is judged by the connected count alone (R100). -/
theorem Engine.requestTransfer_fromLoad {e : Engine} {p : Profile} {c : CtxId} {g : StringId} (ho : e.owner g = some c)
    (hf : isFitted p g = true) (hs : (e.str g).sel = .atLoad) : e.requestTransfer p c g true .opened
      = if fieldNat p fldReserve < e.connected p then (.taken, e.beginTransfer p g .goingOpen .opened (some .load))
        else (.reserve, e) := by
  simp [Engine.requestTransfer, ho, hf, hs]

/-- Settles O39: the holder's request by the connected count, and anyone else's. -/
theorem reserveRuleGuardsTheLoadBus : Obligations.ReserveRuleGuardsTheLoadBus := by
  unfold Obligations.ReserveRuleGuardsTheLoadBus
  intro e p c g
  refine ⟨fun ho hf hs => ⟨fun hmore => ?_, fun hfew => ?_⟩, Engine.requestTransfer_notHolder⟩
  · exact (Engine.requestTransfer_fromLoad ho hf hs).trans (if_pos hmore)
  · exact (Engine.requestTransfer_fromLoad ho hf hs).trans (if_neg hfew.not_gt)

/-! ## Strings that are faulted one after another (R104) -/

/-- With no context busy, a pass over some strings that faults those which meet a condition does that alone. -/
theorem Engine.foldl_faults (p : Profile) {f : Engine → StringId → Engine} {q : StringId → StringRec → Prop}
    [∀ g x, Decidable (q g x)] (hf : ∀ e g, f e g = if q g (e.str g) then e.faultString p g else e)
    {l : List StringId} (hl : l.Nodup) (e : Engine) (h : ∀ c, e.ctx c = none) : ∃ strings evs,
      l.foldl f e = { e with strings := strings, raised := evs }
      ∧ ∀ k, strings.get k = if k ∈ l ∧ q k (e.str k) then (e.str k).fault else e.str k := by
  induction l generalizing e with
  | nil => exact ⟨e.strings, e.raised, rfl, fun k => by simp [Engine.str]⟩
  | cons g l ih =>
    obtain ⟨hg, hl⟩ := List.nodup_cons.mp hl
    let x : StringRec := if q g (e.str g) then (e.str g).fault else e.str g
    have hone : ∃ evs, f e g = { e.putStr g x with raised := evs } := by
      by_cases hq : q g (e.str g)
      · exact ⟨_, (hf e g).trans (by rw [if_pos hq, Engine.faultString_idle p g h, show x = _ from if_pos hq])⟩
      · exact ⟨e.raised, (hf e g).trans (by rw [if_neg hq, show x = _ from if_neg hq, e.putStr_str])⟩
    obtain ⟨evs, hone⟩ := hone
    obtain ⟨strings, evs', hrest, hget⟩ := ih hl (f e g) (by rw [hone]; exact h)
    refine ⟨strings, evs', hrest.trans (by rw [hone]; rfl), fun k => ?_⟩
    rw [hget k, hone]
    by_cases hk : k = g
    · subst hk
      simp only [hg, false_and, if_false, List.mem_cons, true_or, true_and]
      exact e.str_putStr_same k x
    · have hstr : ({ e.putStr g x with raised := evs } : Engine).str k = e.str k := e.str_putStr_other x hk
      simp only [List.mem_cons, hk, false_or, hstr]

/-! ## The fitted mask (R110) -/

theorem profileByte_putProfileByte_same (p : Profile) {k : Nat} (hk : k < 64) (v : Byte) :
    profileByte (putProfileByte p k v) k = v := by
  simp [profileByte, putProfileByte, hk]

theorem profileByte_putProfileByte_other (p : Profile) {j k : Nat} (h : j ≠ k) (v : Byte) :
    profileByte (putProfileByte p k v) j = profileByte p j := by
  by_cases hk : k < 64
  · simp [profileByte, putProfileByte, hk, h.symm]
  · simp [profileByte, putProfileByte, hk]

/-- The mask of the changed profile is the byte that was written. -/
theorem isFitted_changed (p : Profile) (v : Byte) (g : StringId) :
    isFitted (p.changed 0 v) g = v.getLsbD g.val := by
  rw [isFitted, fittedMask, Profile.changed, profileByte_putProfileByte_other _ (by decide),
    profileByte_putProfileByte_same _ (by decide), hasString]

/-- A selector at rest in a position it is not observed at. -/
abbrev StringRec.misplaced (x : StringRec) : Prop :=
  x.sel = .atLoad ∧ x.observed ≠ .load ∨ x.sel = .atOpen ∧ x.observed ≠ .opened
    ∨ x.sel = .atEq ∧ x.observed ≠ .equalise

/-- A string that joins the mask is faulted if it is misplaced, and else left as it is. -/
theorem Engine.joinMask_eq (e : Engine) (p : Profile) (g : StringId) :
    e.joinMask p g = if (e.str g).misplaced then e.faultString p g else e := by
  unfold Engine.joinMask StringRec.misplaced
  cases hsel : (e.str g).sel <;> simp [SelState.home]

/-- The strings that join the mask, one by one. -/
theorem Engine.profileChanged_mask (e : Engine) (old new : Profile) (v : Byte) (h : ∀ c, e.ctx c = none) :
    ∃ strings evs, e.profileChanged old new 0 v = { e with strings := strings, raised := evs }
      ∧ ∀ g, strings.get g = if isFitted new g = true ∧ isFitted old g = false ∧ (e.str g).misplaced then
          (e.str g).fault else e.str g := by
  obtain ⟨strings, evs, hfold, hget⟩ := Engine.foldl_faults new
    (f := fun e g => if isFitted new g && !isFitted old g then e.joinMask new g else e)
    (q := fun g x => isFitted new g = true ∧ isFitted old g = false ∧ x.misplaced)
    (fun e g => by
      simp only [Engine.joinMask_eq, Bool.and_eq_true, Bool.not_eq_true', ← ite_and, and_assoc])
    (l := allStrings) (by decide) e h
  refine ⟨strings, evs, hfold, fun g => ?_⟩
  rw [hget g]
  simp only [mem_allStrings, true_and]

/-- Settles O13: the byte is kept and is a change, and the strings that join are examined, with nobody to be told. -/
theorem fittedMaskChangeExaminesJoiners : Obligations.FittedMaskChangeExaminesJoiners := by
  unfold Obligations.FittedMaskChangeExaminesJoiners
  intro s a v hs hcalm ⟨_, hidle⟩ hno hlock ha hne
  let new := s.profile.changed 0 v
  have hkeeps : s.keepsProfile 0 = true := State.keepsProfile_iff.mpr ⟨hno, hlock, by decide⟩
  obtain ⟨strings, evs, hchange, hget⟩ := s.eng.profileChanged_mask s.profile new v hidle
  have hact := State.act_leads_raised (s := { s.echo a with profile := new }) (n := 0)
    (f := fun e => e.profileChanged s.profile new 0 v) (e := { s.eng with strings := strings }) (evs := evs)
    (.of_eq hchange) (by decide) hcalm.1 hcalm.2
  have hexec := exec_profileWrite_kept v hs (by decide) ha hkeeps
  rw [State.writeProfile_change (s := s.echo a) hne] at hexec
  refine ⟨_, hexec.trans (congrArg (fun t : State => Host.Outcome.next (t.ended false)) hact), rfl, rfl, fun g => ?_,
    rfl, rfl, rfl, rfl⟩
  refine (hget g).trans ?_
  rw [isFitted_changed]
  rfl

end Sys2Proof.Machine
end

section
/-! SUPPORT. A change of feedback, judged by the selector's state: what the blocks do with it, and what follows with no
context busy (R97, R98, R102, R104, R105, R108, R114). -/

namespace Sys2Proof.Machine

/-! ## The records a feedback change leaves (R97, R102) -/

/-- The record of a string that shows a position. -/
def StringRec.showing (x : StringRec) (shown : Contact) : StringRec := { x with observed := shown }

/-- The record of a string whose transfer has completed: at rest, and no longer stranded once it is at LOAD. -/
def StringRec.arrived (x : StringRec) (y : SelState) (d : Drive) : StringRec :=
  { x with sel := y, timer := none, origin := none, stranded := if d = .load then false else x.stranded }

/-- The blocks once a string shows a position, nothing made of it. -/
def Engine.shows (e : Engine) (g : StringId) (shown : Contact) : Engine := e.putStr g ((e.str g).showing shown)

theorem Engine.str_shows (e : Engine) (g : StringId) (shown : Contact) :
    (e.shows g shown).str g = (e.str g).showing shown := e.str_putStr_same g _

/-- A record written later takes the place of the one that shows the position. -/
theorem Engine.shows_putStr (e : Engine) (g : StringId) (shown : Contact) (x : StringRec) :
    (e.shows g shown).putStr g x = e.putStr g x := e.putStr_putStr g _ x

/-- The blocks once a string's transfer has completed with a position shown, before anyone is told. -/
def Engine.arrives (e : Engine) (g : StringId) (shown : Contact) (y : SelState) (d : Drive) : Engine :=
  e.putStr g (((e.str g).showing shown).arrived y d)

theorem Engine.str_arrives (e : Engine) (g : StringId) (shown : Contact) (y : SelState) (d : Drive) :
    (e.arrives g shown y d).str g = ((e.str g).showing shown).arrived y d := e.str_putStr_same g _

/-! ## How the feedback is judged (R97, R98) -/

section
variable {e : Engine} (p : Profile) {g : StringId}

/-- Outside the mask, the observed position is all that changes. -/
theorem Engine.feedback_unfitted (shown : Contact) (hf : isFitted p g = false) :
    e.feedback p g shown = e.shows g shown := by
  simp only [Engine.feedback, hf]
  rfl

/-- In a transfer: the target completes it, NONE and the origin leave it in travel, and a third position is a fault
(R102, R105). -/
theorem Engine.feedback_moving (shown : Contact) {goal : Contact} {y : SelState} {d : Drive} (hf : isFitted p g = true)
    (ht : (e.str g).sel.target = some (goal, y, d)) :
    e.feedback p g shown = if shown = goal then (e.shows g shown).completeTransfer g y d
      else if shown = .between ∨ (e.str g).origin = some shown then e.shows g shown
      else (e.shows g shown).faultString p g := by
  simp only [Engine.feedback, hf, ht, Bool.not_true, Bool.false_eq_true, if_false, Bool.or_eq_true, decide_eq_true_eq,
    eq_comm (a := some shown)]
  rfl

/-- At rest: a FAULTED string, and one at LOAD until the settling reading, take the position alone; any other is faulted
(R104, R114). -/
theorem Engine.feedback_resting (shown : Contact) (hf : isFitted p g = true) (ht : (e.str g).sel.target = none) :
    e.feedback p g shown
      = if (e.str g).sel = .faulted ∨ (e.str g).sel = .atLoad ∧ e.settling ≠ none then
          e.shows g shown
        else (e.shows g shown).faultString p g := by
  simp only [Engine.feedback, hf, ht, Bool.not_true, Bool.false_eq_true, if_false]
  by_cases hfaulted : (e.str g).sel = .faulted
  · rw [if_pos hfaulted, if_pos (.inl hfaulted)]
    rfl
  · simp only [hfaulted, if_false, false_or, Bool.and_eq_true, decide_eq_true_eq, Option.isSome_iff_ne_none]
    rfl

/-! ## A transfer completes (R102) -/

/-- With no context busy, nobody is told. -/
theorem Engine.completeTransfer_idle (h : ∀ c, e.ctx c = none) (y : SelState) (d : Drive) :
    e.completeTransfer g y d = e.putStr g ((e.str g).arrived y d) := by
  unfold Engine.completeTransfer
  dsimp only
  split
  · rename_i c _
    rw [show (e.modStr g _).ctx c = none from h c]
    rfl
  · rfl

/-- The context that drives the string is told. -/
theorem Engine.completeTransfer_owned {c : CtxId} {r : Round} (ho : e.owner g = some c) (hc : e.ctx c = some r)
    (y : SelState) (d : Drive) : e.completeTransfer g y d
      = (e.putStr g ((e.str g).arrived y d)).hand [.transferDone c r.slot g d] := by
  unfold Engine.completeTransfer
  dsimp only
  rw [show (e.modStr g _).owner g = some c from ho]
  dsimp only
  rw [show (e.modStr g _).ctx c = some r from hc]
  rfl

end

/-! ## The command -/

/-- FEEDBACK_CHANGE, with another position shown than the one observed. -/
theorem exec_feedbackChange {s : State} {g : StringId} {shown : Contact} (hs : s.held = none)
    (hne : (s.eng.str g).observed ≠ shown) :
    exec (.feedbackChange g shown) s = .next (s.act fun _ => s.eng.feedback s.profile g shown) := by
  refine congrArg Host.Outcome.next ((State.whenFree_free _ hs).trans ?_)
  show State.absorb { s with eng := Engine.drain s.profile Config.workBudget (if _ then s.eng else _) } = _
  rw [if_neg hne]
  rfl

section
variable {s : State} {g : StringId} {shown : Contact} (hs : s.held = none) (hcalm : s.calm)
  (hne : (s.eng.str g).observed ≠ shown)
include hs hcalm hne

/-- The observed position is all that changes. -/
theorem exec_feedback_plain
    (h : s.eng.feedback s.profile g shown = s.eng.shows g shown) :
    exec (.feedbackChange g shown) s = .next { s with eng := s.eng.shows g shown } := by
  rw [exec_feedbackChange hs hne, h]
  exact congrArg Host.Outcome.next (State.act_leads_quiet (.refl _ _) (by decide) hcalm.1 hcalm.2)

/-- With no context busy, the string is faulted and SELECTOR_FAULT handed. -/
theorem exec_feedback_faults (hidle : ∀ c, s.eng.ctx c = none)
    (h : s.eng.feedback s.profile g shown
      = (s.eng.shows g shown).faultString s.profile g) :
    exec (.feedbackChange g shown) s = .next { s with
      eng := s.eng.putStr g ((s.eng.str g).showing shown).fault, alert := s.alert.capture .selectorFault } := by
  have hfault : s.eng.feedback s.profile g shown
      = { s.eng.putStr g ((s.eng.str g).showing shown).fault with raised := s.eng.raised ++ [.selectorFault] } := by
    rw [h, Engine.faultString_idle (e := s.eng.shows g shown) s.profile g hidle, Engine.str_shows, Engine.shows_putStr]
    rfl
  have hact := State.act_leads_raised (s := s) (f := fun _ => s.eng.feedback s.profile g shown) (n := 0)
    (e := s.eng.putStr g ((s.eng.str g).showing shown).fault) (.of_eq hfault) (by decide) hcalm.1 hcalm.2
  rw [exec_feedbackChange hs hne, hact, hcalm.2]
  rfl

/-- With no context busy, a transfer that reaches its target completes, and nobody is told (R102, R108). -/
theorem exec_feedback_completes (hidle : ∀ c, s.eng.ctx c = none) (hf : isFitted s.profile g = true) {y : SelState}
    {d : Drive} (ht : (s.eng.str g).sel.target = some (shown, y, d)) :
    exec (.feedbackChange g shown) s
      = .next { s with eng := s.eng.arrives g shown y d } := by
  have hdone : s.eng.feedback s.profile g shown = s.eng.arrives g shown y d := by
    rw [Engine.feedback_moving s.profile shown hf ht, if_pos rfl,
      Engine.completeTransfer_idle (e := s.eng.shows g shown) hidle, Engine.str_shows, Engine.shows_putStr, Engine.arrives]
  rw [exec_feedbackChange hs hne, hdone]
  exact congrArg Host.Outcome.next (State.act_leads_quiet (.refl _ _) (by decide) hcalm.1 hcalm.2)

end

end Sys2Proof.Machine
end

section
/-! SUPPORT. A transfer that completes for the context that drives its string (R38, R120 to R123, R127 to R130, R139, R140),
and the statement about feedback. -/

namespace Sys2Proof.Machine

/-! ## The notice of a completed transfer (R102) -/

/-- What follows a feedback change that completes a transfer for its context. -/
theorem exec_feedback_done {s : State} {g : StringId} {shown : Contact} {c : CtxId} {r : Round} {y : SelState} {d : Drive}
    {k : Nat} {f : Engine} (hs : s.held = none) (hne : (s.eng.str g).observed ≠ shown) (hd : s.drives c r g)
    (ht : (s.eng.str g).sel.target = some (shown, y, d))
    (hl : ((s.eng.arrives g shown y d).transferDone s.profile c r d).Leads s.profile k f)
    (hk : k < 1000) (ha : f.agenda = []) :
    exec (.feedbackChange g shown) s
      = .next { s with eng := { f with raised := [] }, alert := f.raised.foldl Alert.capture s.alert } := by
  obtain ⟨hround, hcur, -, howner, hfitted⟩ := hd
  let e := s.eng.arrives g shown y d
  have hdone : s.eng.feedback s.profile g shown = e.hand [.transferDone c r.slot g d] := by
    rw [Engine.feedback_moving s.profile shown hfitted ht, if_pos rfl,
      Engine.completeTransfer_owned (e := s.eng.shows g shown) howner hround, Engine.str_shows, Engine.shows_putStr]
    rfl
  have hwork : (e.hand []).work s.profile (.transferDone c r.slot g d) = e.transferDone s.profile c r d := by
    have hround' : e.ctx c = some r := hround
    simp only [Engine.hand_nil, Engine.work, Engine.withRound, hround', hcur, if_true]
  rw [exec_feedbackChange hs hne, hdone]
  exact congrArg Host.Outcome.next (State.act_leads (.step hwork hl) hk ha)

/-- As before, where the context alone acts and no event is handed. -/
theorem exec_feedback_leaves {s : State} {g : StringId} {shown : Contact} {c : CtxId} {r : Round} {y : SelState}
    {d : Drive} {f : Engine} (hs : s.held = none) (hne : (s.eng.str g).observed ≠ shown) (hd : s.drives c r g)
    (ht : (s.eng.str g).sel.target = some (shown, y, d))
    (hf : (s.eng.arrives g shown y d).transferDone s.profile c r d = f)
    (ha : f.agenda = []) (hr : f.raised = []) : exec (.feedbackChange g shown) s = .next { s with eng := f } := by
  rw [exec_feedback_done hs hne hd ht (.of_eq hf) (by decide) ha, hr]
  exact congrArg (fun evs => Host.Outcome.next { s with eng := { f with raised := evs } }) hr.symm

/-! ## What the context does, by its phase -/

section
variable {e : Engine} (p : Profile) (c : CtxId) {r : Round}

theorem Engine.transferDone_isolating (hp : r.phase = .isolating) : e.transferDone p c r .opened
    = if r.pendingOutcome.isSome then e.returnFromOpen p c r else e.enterPrecharge c r := by
  simp only [Engine.transferDone, hp]

theorem Engine.transferDone_connecting (hp : r.phase = .connecting) (hn : r.kind ≠ .giveBack → r.pendingOutcome = none) :
    e.transferDone p c r .equalise = if r.kind = .giveBack then e.enterMatch c r else e.enterRamp p c r := by
  by_cases hk : r.kind = .giveBack
  · simp only [Engine.transferDone, hp, hk, if_true]
  · simp only [Engine.transferDone, hp, if_neg hk, hn hk, Option.isSome_none, Bool.false_eq_true, if_false]

theorem Engine.transferDone_returning_open (hp : r.phase = .returning) (hn : r.stranding = false) :
    e.transferDone p c r .opened = e.toLoad p c r := by
  simp only [Engine.transferDone, hp, hn, Bool.false_eq_true, if_false]

theorem Engine.transferDone_returning_load {g : StringId} (hp : r.phase = .returning) (hg : r.cur = some g) :
    e.transferDone p c r .load
      = e.closePrimary p c r g (if r.kind = .giveBack then .returned else r.pendingOutcome.getD .siteAbort) := by
  simp only [Engine.transferDone, hp, Engine.closeCurrent, hg]

end

/-- PRECHARGE is entered with the charger enabled, for its holder (R121, R139). -/
theorem Engine.enterPrecharge_holder {e : Engine} {c : CtxId} (r : Round) (h : e.claims.charger = some c) :
    e.enterPrecharge c r = { e.putRound c { r with phase := .precharge, phaseStart := e.clock } with
      charger := { enable := true, setpoint := min 70000 r.prechargeTarget,
                   limit := if r.kind = .giveBack then 100 else currentLimit (e.slot r.slot) } } := if_pos h

/-- RAMP is entered with the compensated setpoint, for the charger's holder (R119, R123). -/
theorem Engine.enterRamp_holder {e : Engine} (p : Profile) {c : CtxId} {r : Round} {g : StringId}
    (h : e.claims.charger = some c) (hg : r.cur = some g) :
    let v := perCellSetpoint p (e.slot r.slot) r.compTemp
    e.enterRamp p c r = { e.putRound c { r with phase := .ramp, phaseStart := e.clock, perCell := v, enteredRamp := true }
      with charger := { e.charger with setpoint := min 70000 (cellsFitted p g * v) } } := by
  intro v
  have hv : stringSetpoint p r v = cellsFitted p g * v := by simp only [stringSetpoint, hg]
  rw [← hv]
  exact if_pos h

/-- MATCH is entered with the charger at the load bus, whatever the latest sample (R127). -/
theorem Engine.enterMatch_loadBus {e : Engine} {c : CtxId} (r : Round) (h : e.claims.charger = some c) :
    e.enterMatch c r
      = { (e.withdrawSweep c).putRound c { r with phase := .matching, phaseStart := e.clock, perCell := 0, holdDue := false }
          with charger := { e.charger with setpoint := min 70000 (latestLoad e.latest) } } := if_pos h

/-- OPEN→LOAD begins, the charger disabled first (R128, R130). -/
theorem Engine.toLoad_taken {e : Engine} {p : Profile} {c : CtxId} {r : Round} {g : StringId} (hg : r.cur = some g)
    (hc : e.claims.charger = some c) (ho : e.owner g = some c) (hf : isFitted p g = true) (hs : (e.str g).sel = .atOpen) :
    e.toLoad p c r = { (e.beginTransfer p g .goingLoad .load (some .opened)).putRound c r with
      charger := { enable := false, setpoint := 0, limit := 0 } } := by
  let off : Engine := { e with charger := { enable := false, setpoint := 0, limit := 0 } }
  have hask : off.askTransfer p c r false .load = (.taken, off.beginTransfer p g .goingLoad .load (some .opened)) := by
    simp only [Engine.askTransfer, hg]
    exact Engine.requestTransfer_toLoad (e := off) ho hf hs false
  rw [Engine.toLoad, show e.chargerDisable c = off from Engine.chargerDisable_holder hc]
  simp only [hask]
  rfl

/-! ## The last string of an order is back at LOAD (R32, R38) -/

/-- A round that is no survey, with no string remaining and no watering to follow, ends. -/
theorem Engine.advance_ends {e : Engine} (p : Profile) (c : CtxId) {d : Round} (hk : d.kind ≠ .survey)
    (hpart : d.inWatering = false) (hm : d.remaining = 0) (hw : thenWater (e.slot d.slot) = false) :
    e.advance p c d = e.finish p c d := by
  have hend : e.endPrimary p c d = e.finish p c d := by simp [Engine.endPrimary, hw]
  have hnext : (if d.firstCause.isSome then none else lowestString d.remaining) = none := by
    rw [hm]; split <;> rfl
  simp only [Engine.advance, if_neg hk, hpart, Bool.false_eq_true, if_false, hnext, hend]

/-- The last string of the order closes with any outcome, no watering to follow: the order settles, and what its context
held is released. -/
theorem Engine.leads_closeHome {e : Engine} (p : Profile) {c : CtxId} {d : Round} (g : StringId) (o : Outcome)
    (hq : e.board.queue = []) (hc : e.claims.charger = some c) (hk : d.kind ≠ .survey) (hpart : d.inWatering = false)
    (hm : d.remaining = 0) (hw : thenWater (e.slot d.slot) = false) :
    ∃ f, (e.closePrimary p c d g o).Leads p 3 f ∧ f.agenda = e.agenda
      ∧ f.str g = d.history p o e.clock (e.str g)
      ∧ f.slot d.slot = (e.slot d.slot).settle (d.closed g o) e.clock
      ∧ f.ctx c = none ∧ f.claims.charger = none ∧ f.owner g = none
      ∧ f.charger = { enable := false, setpoint := 0, limit := 0 } := by
  let x := ((e.putStr g (d.history p o e.clock (e.str g))).putRound c (d.closed g o)).releaseString g
  obtain ⟨hslot, hkind, hpart', -, hrest⟩ := d.closed_keeps g o
  obtain ⟨w, b, evs, hfinish, -, -⟩ := Engine.finish_holder (e := x.hand [.scan]) p (d.closed g o) hc
  let f : Engine := { x with
    board := { (x.putSlot (d.closed g o).slot ((x.slot (d.closed g o).slot).settle (d.closed g o) e.clock)).board with
      standingDown := b },
    ctxs := x.ctxs.set c none, claims := x.claims.dropCtx c, line := (x.withdrawSweep c).line,
    charger := { enable := false, setpoint := 0, limit := 0 }, water := w, raised := x.raised ++ .settled :: evs }
  have hclose : e.closePrimary p c d g o = x.hand [.advance c d.slot, .scan] := by
    have hkeep : ¬ keepsClaim (e.slot d.slot) o = true := by simp [keepsClaim, hw]
    simp only [Engine.closePrimary, if_neg hkeep, Engine.primaryHistory_eq]
    rfl
  have hadvance : (x.hand [.scan]).work p (.advance c d.slot) = f.hand [.scan, .scan] := by
    have hround : x.ctx c = some (d.closed g o) := Engine.ctx_putRound_same _ c _
    have hends := Engine.advance_ends (e := x.hand [.scan]) p c (d := d.closed g o) (by rwa [hkind])
      (hpart'.trans hpart) (hrest.trans hm) (by rw [hslot]; exact hw)
    simp only [Engine.work, Engine.withRound, Engine.hand_ctx, hround, hslot, if_true]
    exact hends.trans hfinish
  have howner : f.owner g = none := by
    show (x.claims.strings.map _).get g = none
    rw [get_map, show x.claims.strings.get g = none from get_set_same _ _ _]
    rfl
  have hsettled : f.slot d.slot = (e.slot d.slot).settle (d.closed g o) e.clock := by
    have hsame := x.slot_putSlot_same (d.closed g o).slot ((x.slot (d.closed g o).slot).settle (d.closed g o) e.clock)
    rw [hslot] at hsame
    show (x.putSlot (d.closed g o).slot _).slot d.slot = _
    rw [hslot]
    exact hsame
  refine ⟨f, ?_, rfl, Engine.str_putStr_same _ _ _, hsettled, get_set_same _ _ _, if_pos hc, howner, rfl⟩
  rw [hclose]
  exact .step hadvance ((Engine.leads_scan_empty (e := f) p [.scan] hq).trans (Engine.leads_scan_empty (e := f) p [] hq))

end Sys2Proof.Machine
end

section
/-! SUPPORT. The statement about feedback (R97, R98, R102 to R105, R108, R114), from the blocks with no context busy to the
context that drives the string. -/

namespace Sys2Proof.Machine

/-- The position a transfer is to reach, the state it ends in, and whether that is LOAD (R102). -/
theorem SelState.target_of_goal {y done : SelState} {goal : Contact} {out : Bool}
    (h : (y = .goingOpen ∧ goal = .opened ∧ done = .atOpen ∧ out = false)
      ∨ (y = .goingEq ∧ goal = .equalise ∧ done = .atEq ∧ out = false)
      ∨ (y = .goingLoad ∧ goal = .load ∧ done = .atLoad ∧ out = true)) :
    ∃ d, y.target = some (goal, done, d) ∧ (d = .load ↔ out = true) := by
  obtain ⟨rfl, rfl, rfl, rfl⟩ | ⟨rfl, rfl, rfl, rfl⟩ | ⟨rfl, rfl, rfl, rfl⟩ := h
  · exact ⟨.opened, rfl, by decide⟩
  · exact ⟨.equalise, rfl, by decide⟩
  · exact ⟨.load, rfl, by decide⟩

/-- A transfer on its way back to LOAD begins in a string that has come to OPEN (R101, R130). -/
def StringRec.headingHome (x : StringRec) (p : Profile) : StringRec :=
  { x with sel := .goingLoad, commanded := .load, origin := some .opened, timer := some (fieldNat p fldTransfer) }

/-- What is left of a completed transfer to OPEN once the transfer home has begun. -/
theorem Engine.beginTransfer_arrives (e : Engine) (p : Profile) (g : StringId) (shown : Contact) :
    (e.arrives g shown .atOpen .opened).beginTransfer p g .goingLoad .load (some .opened)
      = e.putStr g (((e.str g).showing shown).headingHome p) := by
  rw [Engine.beginTransfer, Engine.modStr, Engine.str_arrives, Engine.arrives, Engine.putStr_putStr]
  rfl

section
variable {s : State} {g : StringId} {shown : Contact} {c : CtxId} {r : Round} (hs : s.held = none) (hcalm : s.calm)
  (hne : (s.eng.str g).observed ≠ shown) (hd : s.drives c r g)
include hs hcalm hne hd

/-- OPEN is reached, and OPEN→LOAD begins: in ISOLATING with an outcome pending, or in RETURNING (R120, R128, R130). -/
theorem exec_feedback_headsHome (hsel : (s.eng.str g).sel = .goingOpen) (ho : shown = .opened) {d : Round}
    (hcur : d.cur = some g)
    (ht : (s.eng.arrives g shown .atOpen .opened).transferDone s.profile c r .opened
      = (s.eng.arrives g shown .atOpen .opened).toLoad s.profile c d) :
    exec (.feedbackChange g shown) s = .next { s with
      eng := { (s.eng.putStr g (((s.eng.str g).showing shown).headingHome s.profile)).putRound c d with
        charger := { enable := false, setpoint := 0, limit := 0 } } } := by
  obtain ⟨-, -, hcharger, howner, hfitted⟩ := id hd
  let e := s.eng.arrives g shown .atOpen .opened
  have hopen : (e.str g).sel = .atOpen := congrArg StringRec.sel (s.eng.str_arrives g shown _ _)
  refine exec_feedback_leaves hs hne hd (y := .atOpen) (d := .opened) (by rw [hsel, ho]; rfl) ?_ hcalm.1 hcalm.2
  rw [ht, Engine.toLoad_taken (e := e) hcur hcharger howner hfitted hopen, Engine.beginTransfer_arrives]

/-- The last string of an order is back at LOAD: it closes, and the order settles (R32, R38, R130, R132, R140). -/
theorem exec_feedback_home (hsel : (s.eng.str g).sel = .goingLoad) (hl : shown = .load) (hp : r.phase = .returning)
    (hpart : r.inWatering = false) (hm : r.remaining = 0) (hw : thenWater (s.eng.slot r.slot) = false)
    (hq : s.eng.board.queue = []) (hk : r.kind ≠ .survey) :
    let o := if r.kind = .giveBack then .returned else r.pendingOutcome.getD .siteAbort
    ∃ t, exec (.feedbackChange g shown) s = .next t
      ∧ t.eng.str g = r.history s.profile o s.eng.clock (((s.eng.str g).showing shown).arrived .atLoad .load)
      ∧ t.eng.slot r.slot = (s.eng.slot r.slot).settle (r.closed g o) s.eng.clock
      ∧ t.eng.ctx c = none ∧ t.eng.claims.charger = none ∧ t.eng.owner g = none
      ∧ t.eng.charger = { enable := false, setpoint := 0, limit := 0 } := by
  intro o
  obtain ⟨-, hcur, hcharger, -, -⟩ := id hd
  let e := s.eng.arrives g shown .atLoad .load
  obtain ⟨f, hleads, hagenda, hstr, hslot, hfree, hclaim, howner, hoff⟩ :=
    Engine.leads_closeHome (e := e) s.profile g o hq hcharger hk hpart hm hw
  rw [← Engine.transferDone_returning_load s.profile c hp hcur] at hleads
  refine ⟨_, exec_feedback_done hs hne hd (y := .atLoad) (d := .load) (by rw [hsel, hl]; rfl) hleads (by decide)
    (hagenda.trans hcalm.1), ?_, hslot, hfree, hclaim, howner, hoff⟩
  exact hstr.trans (congrArg (r.history s.profile o s.eng.clock) (s.eng.str_arrives g shown _ _))

end

/-- A third position in a transfer faults the string, as its timeout does once the position is observed (R102, R103). -/
theorem exec_feedback_third {s : State} {g : StringId} {shown goal : Contact} {y : SelState} {d : Drive}
    (hs : s.held = none) (hne : (s.eng.str g).observed ≠ shown) (hf : isFitted s.profile g = true)
    (htimer : (s.eng.str g).timer ≠ none) (ht : (s.eng.str g).sel.target = some (goal, y, d)) (hgoal : shown ≠ goal)
    (hb : shown ≠ .between) (ho : (s.eng.str g).origin ≠ some shown) :
    exec (.feedbackChange g shown) s = exec (.transferTimeout g) { s with eng := s.eng.shows g shown } := by
  have hrecord : ((s.eng.shows g shown).str g).timer ≠ none := by rw [Engine.str_shows]; exact htimer
  rw [exec_feedbackChange hs hne, Engine.feedback_moving s.profile shown hf ht, if_neg hgoal, if_neg (not_or.mpr ⟨hb, ho⟩),
    ← Engine.transferTimeout_running s.profile hrecord]
  exact congrArg Host.Outcome.next (State.whenFree_free (s := { s with eng := s.eng.shows g shown })
    (fun e => e.transferTimeout s.profile g) hs).symm

/-- Settles O40: with no context busy by the selector's state, for the context that drives the string by its phase, and a
third position for either. -/
theorem feedbackIsJudgedByTheSelectorState : Obligations.FeedbackIsJudgedByTheSelectorState := by
  unfold Obligations.FeedbackIsJudgedByTheSelectorState
  intro s g shown hs hcalm hne x seen plain thrown faulted rests toLoad off leaves
  have hplain := exec_feedback_plain hs hcalm hne
  refine ⟨fun hidle => ?_, fun c r hd => ?_, fun origin goal hf htimer horigin hgoing hgoal hb ho => ?_⟩
  · have hfaults := exec_feedback_faults hs hcalm hne hidle
    refine ⟨fun hf => hplain (Engine.feedback_unfitted s.profile shown hf), fun hf => ?_⟩
    have hresting := Engine.feedback_resting (e := s.eng) (g := g) s.profile shown hf
    refine ⟨fun hsel => ?_, fun hsel hset => ?_, fun hsel hset => ?_, fun hsel => ?_, fun goal done out hgoing => ?_⟩
    · exact hplain ((hresting (by rw [hsel]; rfl)).trans (if_pos (.inl hsel)))
    · exact hplain ((hresting (by rw [hsel]; rfl)).trans (if_pos (.inr ⟨hsel, hset⟩)))
    · refine hfaults ((hresting (by rw [hsel]; rfl)).trans (if_neg ?_))
      rw [hsel]
      exact not_or.mpr ⟨by decide, fun hload => hload.2 hset⟩
    · obtain hsel | hsel := hsel
      · exact hfaults ((hresting (by rw [hsel]; rfl)).trans (if_neg (by rw [hsel]; simp)))
      · exact hfaults ((hresting (by rw [hsel]; rfl)).trans (if_neg (by rw [hsel]; simp)))
    · obtain ⟨d, ht, hout⟩ := SelState.target_of_goal hgoing
      have hmoving := Engine.feedback_moving s.profile shown hf ht
      refine ⟨fun hgoal => ?_, fun hgoal hway => ?_, fun hgoal hb ho => ?_⟩
      · refine (exec_feedback_completes hs hcalm hne hidle hf (hgoal ▸ ht)).trans ?_
        simp only [Engine.arrives, StringRec.arrived, hout]
        rfl
      · exact hplain (hmoving.trans ((if_neg hgoal).trans (if_pos hway)))
      · exact hfaults (hmoving.trans ((if_neg hgoal).trans (if_neg (not_or.mpr ⟨hb, ho⟩))))
  · obtain ⟨-, hcur, hcharger, -, -⟩ := id hd
    refine ⟨fun hsel hshown hp => ⟨fun hn => ?_, fun hn => ?_⟩, fun hsel hshown hp => ⟨fun hk hn => ?_, fun hk => ?_⟩,
      fun hsel hshown hp hn => ?_, fun hsel hshown hp hpart hm hw hq => ?_⟩
    · refine exec_feedback_leaves hs hne hd (y := .atOpen) (d := .opened) (by rw [hsel, hshown]; rfl) ?_ hcalm.1 hcalm.2
      rw [Engine.transferDone_isolating s.profile c hp, if_neg (by simp [hn])]
      exact Engine.enterPrecharge_holder (e := s.eng.arrives g shown .atOpen .opened) r hcharger
    · refine exec_feedback_headsHome hs hcalm hne hd hsel hshown (d := r.enter .returning s.eng.clock) hcur ?_
      rw [Engine.transferDone_isolating s.profile c hp, if_pos (Option.isSome_iff_ne_none.mpr hn)]
      rfl
    · refine exec_feedback_leaves hs hne hd (y := .atEq) (d := .equalise) (by rw [hsel, hshown]; rfl) ?_ hcalm.1 hcalm.2
      rw [Engine.transferDone_connecting s.profile c hp fun _ => hn, if_neg hk]
      exact Engine.enterRamp_holder (e := s.eng.arrives g shown .atEq .equalise) s.profile hcharger hcur
    · refine exec_feedback_leaves hs hne hd (y := .atEq) (d := .equalise) (by rw [hsel, hshown]; rfl) ?_ hcalm.1 hcalm.2
      rw [Engine.transferDone_connecting s.profile c hp fun hno => absurd hk hno, if_pos hk]
      exact Engine.enterMatch_loadBus (e := s.eng.arrives g shown .atEq .equalise) r hcharger
    · exact exec_feedback_headsHome hs hcalm hne hd hsel hshown hcur
        (Engine.transferDone_returning_open s.profile c hp hn)
    · intro o hk
      obtain ⟨t, hexec, hstr, hslot, hfree, hclaim, howner, hoff⟩ :=
        exec_feedback_home hs hcalm hne hd hsel hshown hp hpart hm hw hq hk
      obtain ⟨hsel', -, hstranded, htimer, -, -, hhistory⟩ :=
        r.history_selector s.profile o s.eng.clock ((x.showing shown).arrived .atLoad .load)
      rw [← hstr] at hsel' hstranded htimer hhistory
      refine ⟨t, hexec, hsel', hstranded, htimer, hhistory, congrArg Slot.mark hslot, ?_, hfree, hclaim, howner, hoff⟩
      refine (congrArg (fun y => y.result.primary.get g) hslot).trans ?_
      show (r.putOutcome g o).primary.get g = o
      rw [Round.primary_putOutcome g o hpart, get_set_same]
  · have htarget : ∃ y d, x.sel.target = some (goal, y, d) := by
      obtain ⟨hsel, rfl⟩ | ⟨hsel, rfl⟩ | ⟨hsel, rfl⟩ := hgoing
      · exact ⟨.atOpen, .opened, by rw [hsel]; rfl⟩
      · exact ⟨.atEq, .equalise, by rw [hsel]; rfl⟩
      · exact ⟨.atLoad, .load, by rw [hsel]; rfl⟩
    obtain ⟨y, d, ht⟩ := htarget
    exact exec_feedback_third hs hne hf htimer ht hgoal hb fun horig =>
      ho (Option.some.inj (horig.symm.trans horigin))

end Sys2Proof.Machine
end

section
/-! SUPPORT. The charger port's answers to its holder and to others (R115), and the timeouts of PRECHARGE and MATCH, which
send an EQUALISE string on its way back (R121, R127, R129, R130). -/

namespace Sys2Proof.Machine

/-! ## The charger port (R115) -/

theorem Engine.chargerEnable_holder {e : Engine} {c : CtxId} (volts limit : Nat) (h : e.claims.charger = some c) :
    e.chargerEnable c volts limit
      = { e with charger := { enable := true, setpoint := min 70000 volts, limit := limit } } := if_pos h

/-- SET from the holder, whatever the setpoint (R115). -/
theorem Engine.chargerSet_capped {e : Engine} {c : CtxId} (volts : Nat) (h : e.claims.charger = some c) :
    e.chargerSet c volts = { e with charger := { e.charger with setpoint := min 70000 volts } } := if_pos h

/-- Settles O56, by whether the context holds the claim. -/
theorem chargerPortObeysItsHolder : Obligations.ChargerPortObeysItsHolder := by
  unfold Obligations.ChargerPortObeysItsHolder
  intro e c volts limit v
  have hv : min 70000 volts = v := min_def_lt 70000 volts
  refine ⟨fun hholds => ?_, fun hother => e.charger_refused c volts limit hother⟩
  rw [← hv]
  exact ⟨Engine.chargerEnable_holder volts limit hholds, Engine.chargerSet_capped volts hholds,
    Engine.chargerDisable_holder hholds⟩

/-! ## The precharge timer (R121, R130) -/

/-- A timer of the context's phase that lies ahead of the clock, and of the advance to come, does nothing (R94, log 7). -/
theorem Engine.phaseTimer_early {e : Engine} {c : CtxId} {ph : Phase} {r : Round} {deadline : Round → Clock}
    (active : Bool) (f : Round → Engine → Engine) (hc : e.ctx c = some r) (hp : r.phase = ph)
    (hnow : 2 ^ 31 ≤ (e.clock - deadline r).toNat) (hnext : 2 ^ 31 ≤ (e.clock + 1 - deadline r).toNat) :
    e.phaseTimer active c ph deadline f = e := by
  simp only [Engine.phaseTimer, hc, hp, if_true, Engine.due_none active hnow hnext]

theorem Engine.prechargeTimeout_early {e : Engine} (p : Profile) {c : CtxId} {r : Round} (hc : e.ctx c = some r)
    (hp : r.phase = .precharge) (hnow : 2 ^ 31 ≤ (e.clock - after r.phaseStart (fieldNat p fldPrecharge)).toNat)
    (hnext : 2 ^ 31 ≤ (e.clock + 1 - after r.phaseStart (fieldNat p fldPrecharge)).toNat) :
    e.prechargeTimeout p true c = e :=
  Engine.phaseTimer_early (deadline := fun r => after r.phaseStart (fieldNat p fldPrecharge)) true _ hc hp hnow hnext

/-- The expiry for a string that is not being given back: it returns from OPEN (R121). -/
theorem Engine.prechargeTimeout_returns {e : Engine} (p : Profile) {c : CtxId} {r : Round} (hc : e.ctx c = some r)
    (hp : r.phase = .precharge) (hk : r.kind ≠ .giveBack)
    (hdue : (e.clock - after r.phaseStart (fieldNat p fldPrecharge)).toNat < 2 ^ 31) :
    e.prechargeTimeout p true c = e.returnFromOpen p c { r with pendingOutcome := some .prechargeTimeout } :=
  (Engine.phaseTimer_reached (deadline := fun r => after r.phaseStart (fieldNat p fldPrecharge)) true _ hc hp hdue).trans
    (if_neg hk)

/-- Settles O51: the timer that is reached and the return from OPEN it begins, then the timer that is not. -/
theorem prechargeTimeoutReturnsFromOpen : Obligations.PrechargeTimeoutReturnsFromOpen := by
  unfold Obligations.PrechargeTimeoutReturnsFromOpen
  intro s c r g hs ⟨hc, hcur, hcharger, howner, hfitted⟩ hp
  refine ⟨fun hkind hsel hdue => ?_, fun ⟨hnow, hnext⟩ => ?_⟩
  · have hk : r.kind ≠ .giveBack := by rw [hkind]; decide
    have hreturns := (Engine.prechargeTimeout_returns s.profile hc hp hk hdue).trans
      (Engine.returnFromOpen_taken (d := { r with pendingOutcome := some .prechargeTimeout }) hcur hcharger howner hfitted
        hsel)
    exact congrArg Host.Outcome.next (State.whenAwake_quiet hs (.of_eq hreturns) (by decide) hs.2.1 hs.2.2)
  · exact congrArg Host.Outcome.next
      (State.whenAwake_unchanged hs (Engine.prechargeTimeout_early s.profile hc hp hnow hnext))

/-! ## The match timer (R127, R129) -/

theorem Engine.matchTimeout_reached {e : Engine} (p : Profile) {c : CtxId} {r : Round} (hc : e.ctx c = some r)
    (hp : r.phase = .matching)
    (hdue : (e.clock - after r.phaseStart (60 * fieldNat p fldMatchTimeout)).toNat < 2 ^ 31) :
    e.matchTimeout p true c = e.strandingReturn p c r :=
  Engine.phaseTimer_reached (deadline := fun r => after r.phaseStart (60 * fieldNat p fldMatchTimeout)) true
    (fun r e => e.strandingReturn p c r) hc hp hdue

/-- A stranding return begins: the charger disabled, EQUALISE→OPEN under way (R127, R129). -/
theorem Engine.strandingReturn_taken {e : Engine} {p : Profile} {c : CtxId} {r : Round} {g : StringId}
    (hg : r.cur = some g) (hc : e.claims.charger = some c) (ho : e.owner g = some c) (hf : isFitted p g = true)
    (hs : (e.str g).sel = .atEq) :
    e.strandingReturn p c r = { (e.beginTransfer p g .goingOpen .opened (some .equalise)).putRound c
      { r.enter .returning e.clock with stranding := true } with
        charger := { enable := false, setpoint := 0, limit := 0 } } := by
  rw [Engine.strandingReturn, Engine.chargerDisable_holder hc]
  exact Engine.enterReturning_taken (e := { e with charger := Charger.blank }) hg ho hf hs true

/-- Settles O55: the timer that is reached, then the stranding return it begins. -/
theorem matchTimeoutBeginsAStrandingReturn : Obligations.MatchTimeoutBeginsAStrandingReturn := by
  unfold Obligations.MatchTimeoutBeginsAStrandingReturn
  intro s c r g hs ⟨hc, hcur, hcharger, howner, hfitted⟩ hp hsel hdue
  have hstrands := (Engine.matchTimeout_reached s.profile hc hp hdue).trans
    (Engine.strandingReturn_taken hcur hcharger howner hfitted hsel)
  exact congrArg Host.Outcome.next (State.whenAwake_quiet hs (.of_eq hstrands) (by decide) hs.2.1 hs.2.2)

end Sys2Proof.Machine
end

section
/-! SUPPORT. Flow pulses by the condition of the path (R148, R149, R154, R156), and the stop and fill timers, which end
a fill (R146, R156, R157). -/

namespace Sys2Proof.Machine

/-! ## The end of a fill (R146, R156) -/

/-- A fill that ends with the valve open: the valve closes, and the coast goes on with the outcome pending. -/
theorem Engine.endFill_open {e : Engine} (p : Profile) (c : CtxId) (r : Round) {g : StringId} (o : Outcome)
    (hv : e.water.valve = some g) :
    e.endFill p c r o = { e.putRound c { r with pendingOutcome := some o, coasting := true } with
      water := e.water.closed g (after e.clock (fieldNat p fldStop)) } := by
  rw [Engine.endFill, Engine.closeValve_open p hv]
  rfl

/-- What the stop timer and the fill timer have in common: one that runs out in FILL, with no coast under way, ends the
fill with its own outcome (R156). -/
def Engine.fillTimer (e : Engine) (p : Profile) (c : CtxId) (deadline : Round → Clock) (o : Outcome) : Engine :=
  e.phaseTimer true c .fill deadline fun r e => if r.coasting then e else e.endFill p c r o

theorem Engine.stopExpiry_eq (e : Engine) (p : Profile) (c : CtxId) :
    e.stopExpiry p true c = e.fillTimer p c (fun r => after r.lastPulse (fieldNat p fldStop)) .watered := rfl

theorem Engine.fillTimeout_eq (e : Engine) (p : Profile) (c : CtxId) :
    e.fillTimeout p true c = e.fillTimer p c (fun r => after r.phaseStart (60 * fieldNat p fldFill)) .fillTimeout := rfl

section
variable {e : Engine} {c : CtxId} {r : Round} {deadline : Round → Clock}

theorem Engine.fillTimer_open (p : Profile) {g : StringId} (o : Outcome) (hc : e.ctx c = some r) (hp : r.phase = .fill)
    (hdue : (e.clock - deadline r).toNat < 2 ^ 31) (hco : r.coasting = false) (hv : e.water.valve = some g) :
    e.fillTimer p c deadline o = { e.putRound c { r with pendingOutcome := some o, coasting := true } with
      water := e.water.closed g (after e.clock (fieldNat p fldStop)) } :=
  (Engine.phaseTimer_reached true _ hc hp hdue).trans
    ((if_neg (by rw [hco]; decide)).trans (Engine.endFill_open p c r o hv))

/-- Once the valve has closed, an expiry does nothing (R157). -/
theorem Engine.fillTimer_coasting (p : Profile) (o : Outcome) (hc : e.ctx c = some r) (hp : r.phase = .fill)
    (hdue : (e.clock - deadline r).toNat < 2 ^ 31) (hco : r.coasting = true) : e.fillTimer p c deadline o = e :=
  (Engine.phaseTimer_reached true _ hc hp hdue).trans (if_pos hco)

end

/-- Settles O59: each timer with the valve open, then each during the coast. -/
theorem fillEndsAtStopOrLimit : Obligations.FillEndsAtStopOrLimit := by
  unfold Obligations.FillEndsAtStopOrLimit
  intro s c r g hs hc hp
  refine ⟨fun hco hv => ⟨fun hdue => ?_, fun hdue => ?_⟩, fun hco => ⟨fun hdue => ?_, fun hdue => ?_⟩⟩
  · have hends := (s.eng.stopExpiry_eq s.profile c).trans (Engine.fillTimer_open s.profile _ hc hp hdue hco hv)
    exact congrArg Host.Outcome.next (State.whenAwake_quiet hs (.of_eq hends) (by decide) hs.2.1 hs.2.2)
  · have hends := (s.eng.fillTimeout_eq s.profile c).trans (Engine.fillTimer_open s.profile _ hc hp hdue hco hv)
    exact congrArg Host.Outcome.next (State.whenAwake_quiet hs (.of_eq hends) (by decide) hs.2.1 hs.2.2)
  · have hsame := (s.eng.stopExpiry_eq s.profile c).trans (Engine.fillTimer_coasting s.profile _ hc hp hdue hco)
    exact congrArg Host.Outcome.next (State.whenAwake_unchanged hs hsame)
  · have hsame := (s.eng.fillTimeout_eq s.profile c).trans (Engine.fillTimer_coasting s.profile _ hc hp hdue hco)
    exact congrArg Host.Outcome.next (State.whenAwake_unchanged hs hsame)

/-! ## Which block takes a pulse (R148) -/

theorem Engine.waterHolder_busy {e : Engine} {c : CtxId} {r : Round} (hw : e.claims.water = some c)
    (hc : e.ctx c = some r) : e.waterHolder = some (c, r) := by
  simp only [Engine.waterHolder, hw, hc, Option.map_some]

theorem Engine.flowPulse_open {e : Engine} (p : Profile) {c : CtxId} {r : Round} {g : StringId}
    (hh : e.waterHolder = some (c, r)) (hv : e.water.valve = some g) : e.flowPulse p = e.fillPulse p c r := by
  simp only [Engine.flowPulse, hv, hh]

theorem Engine.flowPulse_coasting {e : Engine} (p : Profile) {c : CtxId} {r : Round}
    (hh : e.waterHolder = some (c, r)) (hv : e.water.valve = none) (hco : e.water.coast ≠ none) :
    e.flowPulse p = e.putRound c (r.addPulse p) := by
  obtain ⟨k, hk⟩ := Option.ne_none_iff_exists'.mp hco
  simp only [Engine.flowPulse, hv, hk, hh]

/-- With no valve open and no coast, a FAULTED path counts no pulse, and any other an idle one (R148, R149). -/
theorem Engine.flowPulse_still {e : Engine} (p : Profile) (hv : e.water.valve = none) (hco : e.water.coast = none) :
    e.flowPulse p = if e.water.state = .faulted then e else e.idlePulse p := by
  simp only [Engine.flowPulse, hv, hco]

/-! ## A pulse with the valve open, by the holder's phase (R154, R156) -/

theorem Engine.fillPulse_prime (e : Engine) (p : Profile) (c : CtxId) {r : Round} (hp : r.phase = .prime) :
    e.fillPulse p c r = e.putRound c { (r.addPulse p).enter .fill e.clock with lastPulse := e.clock } := by
  have hphase : (r.addPulse p).phase = .prime := hp
  simp only [Engine.fillPulse, hphase]

/-- In FILL a pulse ends the fill once the volume has reached the cap, and until then restarts the stop timer. -/
theorem Engine.fillPulse_fill (e : Engine) (p : Profile) (c : CtxId) {r : Round} {g : StringId} (hp : r.phase = .fill)
    (hg : r.cur = some g) :
    e.fillPulse p c r = if volumeCap (e.slot r.slot) ≤ (r.addPulse p).waterVolume then
        (e.modStr g fun x => x.setFlag sfVolumeCap).endFill p c (r.addPulse p) .volumeCap
      else e.putRound c { r.addPulse p with lastPulse := e.clock } := by
  have hphase : (r.addPulse p).phase = .fill := hp
  have hcur : (r.addPulse p).cur = some g := hg
  simp only [Engine.fillPulse, hphase, hcur]
  rfl

/-! ## An idle pulse (R149) -/

theorem Engine.idlePulse_counted {e : Engine} (p : Profile) (h : e.water.idle + 1 < 3) :
    e.idlePulse p = { e with water := { e.water with idle := e.water.idle + 1 } } := by
  have hbump : bump 3 e.water.idle = e.water.idle + 1 := Nat.min_eq_right h.le
  simp only [Engine.idlePulse, hbump]
  exact if_neg h.ne

/-- The blocks with the path as the third idle pulse leaves it: FAULTED, its cause LEAK. -/
def Engine.leaked (e : Engine) : Engine :=
  { e with water := { e.water with idle := 3, state := .faulted, cause := .leak } }

/-- The third idle pulse, here with no holder to take the cause, faults the path as LEAK. -/
theorem Engine.idlePulse_third {e : Engine} (p : Profile) (h : e.water.idle = 2) (hv : e.water.valve = none)
    (hw : e.claims.water = none) : e.idlePulse p = (e.leaked.raise .waterFault).hand [.scan] := by
  have hbump : bump 3 e.water.idle = 3 := by rw [h]; rfl
  simp only [Engine.idlePulse, hbump, if_true]
  rw [Engine.faultPath_shut (e := { e with water := { e.water with idle := 3 } }) p .leak hv]
  simp only [Engine.causeToHolder, hw]
  rfl

/-! ## The pulse and what follows -/

/-- A pulse that hands over nothing. -/
theorem exec_flowPulse_quiet {s : State} {e : Engine} (hs : s.held = none) (hf : s.eng.flowPulse s.profile = e)
    (ha : e.agenda = []) (hr : e.raised = []) : exec .flowPulse s = .next { s with eng := e } :=
  congrArg Host.Outcome.next
    ((State.whenFree_free _ hs).trans (State.act_leads_quiet (.of_eq hf) (by decide) ha hr))

/-- A pulse with the work it leads to: the events that are handed are judged. -/
theorem exec_flowPulse_raised {s : State} {n : Nat} {e : Engine} {evs : List Event} (hs : s.held = none)
    (h : (s.eng.flowPulse s.profile).Leads s.profile n { e with raised := evs }) (hn : n ≤ 1000) (ha : e.agenda = [])
    (hr : e.raised = []) :
    exec .flowPulse s = .next { s with eng := e, alert := evs.foldl Alert.capture s.alert } :=
  congrArg Host.Outcome.next ((State.whenFree_free _ hs).trans (State.act_leads_raised h hn ha hr))

/-- Settles O57: the holder's pulse by its phase and its volume, the coast, then the path with no valve open. -/
theorem flowPulseByPathCondition : Obligations.FlowPulseByPathCondition := by
  unfold Obligations.FlowPulseByPathCondition
  intro s hs hcalm w ml
  obtain ⟨hwork, hevents⟩ := id hcalm
  refine ⟨fun c r g hw hc hg => ?_, fun hv hco hstate => ?_, fun hv hco hstate hidle => ?_,
    fun hv hco hstate hidle hw hq => ?_⟩
  · have hholder := Engine.waterHolder_busy hw hc
    refine ⟨fun hv hp => ?_, fun hv hp hbelow => ?_, fun hv hp hcap => ?_, fun hv hco => ?_⟩
    · have hprime := (Engine.flowPulse_open s.profile hholder hv).trans (s.eng.fillPulse_prime s.profile c hp)
      exact exec_flowPulse_quiet hs hprime hwork hevents
    · have hfill := (Engine.flowPulse_open s.profile hholder hv).trans
        ((s.eng.fillPulse_fill s.profile c hp hg).trans (if_neg (not_le.mpr hbelow)))
      exact exec_flowPulse_quiet hs hfill hwork hevents
    · have hcapped := (Engine.flowPulse_open s.profile hholder hv).trans
        ((s.eng.fillPulse_fill s.profile c hp hg).trans ((if_pos hcap).trans
          (Engine.endFill_open (e := s.eng.modStr g fun x => x.setFlag sfVolumeCap) s.profile c _ .volumeCap hv)))
      exact exec_flowPulse_quiet hs hcapped hwork hevents
    · exact exec_flowPulse_quiet hs (Engine.flowPulse_coasting s.profile hholder hv hco) hwork hevents
  · have hfaulted := (Engine.flowPulse_still s.profile hv hco).trans (if_pos hstate)
    exact congrArg Host.Outcome.next (State.whenFree_unchanged hs hcalm hfaulted)
  · have hcounted := (Engine.flowPulse_still s.profile hv hco).trans
      ((if_neg hstate).trans (Engine.idlePulse_counted s.profile hidle))
    exact exec_flowPulse_quiet hs hcounted hwork hevents
  · have hleak := (Engine.flowPulse_still s.profile hv hco).trans
      ((if_neg hstate).trans (Engine.idlePulse_third s.profile hidle hv hw))
    have hraised : s.eng.leaked.raise .waterFault = { s.eng.leaked with raised := [.waterFault] } :=
      congrArg (fun evs => ({ s.eng.leaked with raised := evs ++ [.waterFault] } : Engine)) hevents
    have hscan : (s.eng.flowPulse s.profile).Leads s.profile 1 { s.eng.leaked with raised := [.waterFault] } := by
      rw [hleak, ← hraised]
      exact Engine.leads_scan_empty s.profile [] hq
    exact exec_flowPulse_raised (e := s.eng.leaked) hs hscan (by decide) hwork hevents

end Sys2Proof.Machine
end

section
/-! SUPPORT. Transactions that write nothing: a READ, a FRAMING error, one that finds the link deaf; and the wake at the
fall of CS# (R166 to R171, R174, R181, R193). -/

namespace Sys2Proof.Machine

/-! ## READ (R166 to R171) -/

theorem framing_read_command : (ReadBurst.raw .commandOnly).framing = .read none := rfl

theorem framing_read_address (h : Byte) : (ReadBurst.raw (.addressHigh h)).framing = .read none := rfl

theorem framing_read_data (a : BitVec 16) {n : Nat} (hn : n ≤ 64) :
    (ReadBurst.raw (.data a n)).framing = .read (some (a, n)) := by
  simp [ReadBurst.raw, RawTransaction.framing, hn]

/-- A READ without error drives SDO and clears the previous-error record. -/
theorem State.transact_read {s : State} {t : RawTransaction} {d : Option (BitVec 16 × Nat)} (hs : s.linkUp)
    (ht : t.framing = .read d) : s.transact t = (s.shiftOut t.bytes).endTransaction false := by
  rw [State.transact_linkUp s t hs, State.settleFor_other s t (by simp [ht])]
  simp only [State.serve, ht]

/-- A READ uses none of the free bytes (R168). -/
theorem State.freeUse_read (s : State) (rest : List Byte) : s.freeUse (0x11 :: rest) = 0 := by
  unfold State.freeUse
  split
  · rename_i hc
    rw [← (List.cons.inj hc).1]
    rfl
  · rfl

/-- The part once a READ has driven SDO and ended. -/
theorem State.shiftOut_read (s : State) (rest : List Byte) : (s.shiftOut (0x11 :: rest)).endTransaction false
    = { s with link := { s.link with sdo := s.statusByte :: s.sdoTail (0x11 :: rest), prevError := false } } := by
  simp only [State.shiftOut, State.freeUse_read, State.endTransaction, Nat.add_zero]
  rfl

/-- Behind the status byte and the zeros of the address, a READ of up to 64 bytes carries the snapshot (R168, R169). -/
theorem State.sdoTail_read (s : State) (high low : Byte) {ds : List Byte} (hd : ds.length ≤ 64) :
    s.sdoTail (0x11 :: high :: low :: ds) = 0 :: 0 ::
      (List.range ds.length).map fun k => s.readByte (burstAddr s.link.portMode (addressOf high low) k) := by
  have hbytes : ∀ k ∈ List.range ds.length, s.sdoData false (addressOf high low) k
      = s.readByte (burstAddr s.link.portMode (addressOf high low) k) := fun k hk => by
    have hk64 : k < 64 := (List.mem_range.mp hk).trans_le hd
    simp [State.sdoData, hk64]
  exact congrArg (fun data => 0 :: 0 :: data) (List.map_congr_left hbytes)

/-- Settles O3: the READ by where it ends. -/
theorem readsCarryTheSnapshot : Obligations.ReadsCarryTheSnapshot := by
  unfold Obligations.ReadsCarryTheSnapshot
  intro s hs
  have hread (t : ReadBurst) (rest : List Byte) (d : Option (BitVec 16 × Nat)) (ht : t.raw.framing = .read d)
      (hbytes : t.raw.bytes = 0x11 :: rest) : exec (.read t) s = .next
        { s with link := { s.link with sdo := s.statusByte :: s.sdoTail (0x11 :: rest), prevError := false } } := by
    have htransact := State.transact_read hs ht
    rw [hbytes, State.shiftOut_read] at htransact
    exact congrArg Host.Outcome.next htransact
  refine ⟨fun a n hn => ?_, hread .commandOnly [] none framing_read_command rfl,
    fun h => hread (.addressHigh h) [h] none (framing_read_address h) rfl⟩
  have hlength : (List.replicate n (0 : Byte)).length = n := List.length_replicate
  rw [hread (.data a n) _ _ (framing_read_data a hn) rfl, State.sdoTail_read s _ _ (hlength.trans_le hn), hlength,
    addressOf_split]

/-! ## FRAMING errors (R171, R174) -/

/-- A FRAMING error drives SDO, and is reported. -/
theorem State.transact_error {s : State} {t : RawTransaction} {c : Option Byte} {d : Option (BitVec 16 × List Byte)}
    (hs : s.linkUp) (ht : t.framing = .error c d) : s.transact t = (s.shiftOut t.bytes).framingError := by
  rw [State.transact_linkUp s t hs, State.settleFor_other s t (by simp [ht])]
  simp only [State.serve, ht]

/-- A transaction that is judged by one condition has an error exactly where the condition fails. -/
theorem ite_error_iff {p : Prop} [Decidable p] {x : Framing} (hx : ∀ c d, x ≠ .error c d) (a : Option Byte)
    (b : Option (BitVec 16 × List Byte)) : (∃ c d, (if p then x else .error a b) = .error c d) ↔ ¬ p := by
  by_cases h : p
  · simp [h, hx]
  · simp [h]

/-- Which transactions have a FRAMING error, by how many bytes of the command and the address have come (R171). -/
theorem framing_error_iff (t : RawTransaction) : (∃ c d, t.framing = .error c d) ↔
    ¬ (t.extraBits = 0 ∧ (t.bytes = [] ∨ (∃ rest, t.bytes = 0x11 :: rest ∧ rest.length ≤ 66)
      ∨ ∃ h l ds, t.bytes = 0x22 :: h :: l :: ds ∧ 1 ≤ ds.length ∧ ds.length ≤ 64)) := by
  obtain ⟨bytes, extra⟩ := t
  match bytes with
  | [] =>
    refine (ite_error_iff (by simp) _ _).trans (not_congr ?_)
    simp
  | [c] =>
    refine (ite_error_iff (by simp) _ _).trans (not_congr ?_)
    simp [and_comm]
  | [c, h] =>
    refine (ite_error_iff (by simp) _ _).trans (not_congr ?_)
    simp [and_comm]
  | c :: h :: l :: ds =>
    by_cases hread : c = 0x11 ∧ extra = 0 ∧ ds.length ≤ 64
    · obtain ⟨rfl, rfl, hlen⟩ := hread
      simpa [RawTransaction.framing, hlen] using Nat.lt_succ_of_le hlen
    · simp only [RawTransaction.framing, if_neg hread]
      refine (ite_error_iff (by simp) _ _).trans (not_congr ?_)
      simp only [List.cons.injEq]
      grind

/-- A WRITE of 1 to 64 data bytes commits (R171). -/
theorem framing_write (high low : Byte) {ds : List Byte} (h1 : 1 ≤ ds.length) (h64 : ds.length ≤ 64) :
    RawTransaction.framing ⟨0x22 :: high :: low :: ds, 0⟩ = .write ⟨addressOf high low, ds⟩ := by
  simp [RawTransaction.framing, h1, h64]

/-- Settles O4: the error as the transaction ends, the transactions that have one, and the rows that bring one. -/
theorem framingErrorWritesNothing : Obligations.FramingErrorWritesNothing := by
  unfold Obligations.FramingErrorWritesNothing
  refine ⟨fun s t c d hs ht => ⟨s.sdoTail t.bytes, s.link.freeReads + s.freeUse t.bytes, ?_⟩, framing_error_iff,
    fun h l ds => framing_write h l, fun s i w _ hi _ => exec_of_sends hi s⟩
  exact congrArg Host.Outcome.next (State.transact_error hs ht)

/-! ## Deafness and the wake (R167, R181, R193) -/

/-- The rows that a transaction comes in, each its transaction. -/
theorem exec_of_transaction {i : Instr}
    (hi : (∃ t, i = .read t) ∨ (∃ t, i = .framingError t) ∨ ∃ w, Sends i w) :
    ∃ t : RawTransaction, ∀ s, exec i s = .next (s.transact t) := by
  obtain ⟨t, rfl⟩ | ⟨t, rfl⟩ | ⟨w, hw⟩ := hi
  · exact ⟨t.raw, fun _ => rfl⟩
  · exact ⟨t, fun _ => rfl⟩
  · exact ⟨w.raw, exec_of_sends hw⟩

/-- A deaf link takes no transaction. -/
theorem State.transact_deaf {s : State} (t : RawTransaction) (h : s.linkDeaf = true) : s.transact t = s := if_pos h

/-- Waking a part that is awake changes nothing. -/
theorem State.wake_wake (s : State) (src : WakeSource) : (s.wake src).wake src = s.wake src := by
  by_cases h : s.alert.power = .dormant
  · rw [State.wake, State.wake, if_pos h]
    exact if_neg (by simp)
  · rw [State.wake, State.wake, if_neg h, if_neg h]

/-- The link is as deaf once the part is awake as before. -/
theorem State.wake_linkDeaf (s : State) (src : WakeSource) : (s.wake src).linkDeaf = s.linkDeaf := by
  unfold State.wake
  split <;> rfl

/-- A transaction that the link takes finds the part awake. -/
theorem State.transact_wake {s : State} (t : RawTransaction) (h : s.linkDeaf = false) :
    s.transact t = (s.wake .link).transact t := by
  simp only [State.transact, State.wake_linkDeaf, State.wake_wake, h, Bool.false_eq_true, if_false]

/-- Settles O5: every row is a transaction, which a deaf link does not take, and which wakes the part first. -/
theorem transactionsWakeThePart : Obligations.TransactionsWakeThePart := by
  unfold Obligations.TransactionsWakeThePart
  intro s i hi
  obtain ⟨t, ht⟩ := exec_of_transaction hi
  refine ⟨fun hdeaf => ?_, fun hdormant hdeaf => ?_⟩
  · rw [ht, State.transact_deaf t hdeaf]
  · rw [ht, ht, State.transact_wake t hdeaf, State.wake, if_pos hdormant]

end Sys2Proof.Machine
end

section
/-! SUPPORT. The bytes a WRITE applies, its two passes, and the commit of a whole burst (R172; log 3, log 11). -/

namespace Sys2Proof.Machine

/-! ## A byte put in its place (R172) -/

/-- The addresses rise. -/
abbrev Rising (bs : List (Nat × Byte)) : Prop := bs.Pairwise fun x y => x.1 < y.1

/-- What is in the list is the byte that was put in, and the bytes at other addresses that were there. -/
theorem mem_applyLater {x y : Nat × Byte} {bs : List (Nat × Byte)} (h : Rising bs) :
    y ∈ applyLater x bs ↔ y = x ∨ (y.1 ≠ x.1 ∧ y ∈ bs) := by
  induction bs with
  | nil => simp [applyLater]
  | cons z bs ih =>
    obtain ⟨hz, hbs⟩ := List.pairwise_cons.mp h
    rcases lt_trichotomy x.1 z.1 with hlt | heq | hgt
    · rw [applyLater, if_pos hlt]
      grind
    · rw [applyLater, if_neg heq.not_lt, if_pos heq]
      grind
    · rw [applyLater, if_neg hgt.not_gt, if_neg hgt.ne', List.mem_cons, ih hbs]
      grind

/-- A byte put in its place leaves the addresses rising. -/
theorem rising_applyLater {bs : List (Nat × Byte)} (x : Nat × Byte) (h : Rising bs) : Rising (applyLater x bs) := by
  induction bs with
  | nil => exact List.pairwise_singleton _ _
  | cons z bs ih =>
    obtain ⟨hz, hbs⟩ := List.pairwise_cons.mp h
    rcases lt_trichotomy x.1 z.1 with hlt | heq | hgt
    · rw [applyLater, if_pos hlt]
      exact List.pairwise_cons.mpr ⟨fun y hy => by grind, h⟩
    · rw [applyLater, if_neg heq.not_lt, if_pos heq]
      exact List.pairwise_cons.mpr ⟨fun y hy => heq ▸ hz y hy, hbs⟩
    · rw [applyLater, if_neg hgt.not_gt, if_neg hgt.ne']
      refine List.pairwise_cons.mpr ⟨fun y hy => ?_, ih hbs⟩
      rcases (mem_applyLater hbs).mp hy with rfl | ⟨-, hy⟩
      · exact hgt
      · exact hz y hy

/-! ## The bytes of a burst, the later over the earlier -/

/-- The bytes of a burst, each put in its place in burst order. -/
def lastValues (bs : List (Nat × Byte)) : List (Nat × Byte) := bs.foldl (fun acc x => applyLater x acc) []

theorem appliedBytes_eq (mode : Byte) (w : WriteBurst) :
    appliedBytes mode w = lastValues (burstBytes mode w.addr 0 w.data) := rfl

theorem lastValues_concat (bs : List (Nat × Byte)) (x : Nat × Byte) :
    lastValues (bs ++ [x]) = applyLater x (lastValues bs) := by
  simp [lastValues]

theorem rising_lastValues (bs : List (Nat × Byte)) : Rising (lastValues bs) := by
  induction bs using List.reverseRecOn with
  | nil => exact List.Pairwise.nil
  | append_singleton bs x ih =>
    rw [lastValues_concat]
    exact rising_applyLater x ih

/-- Each address keeps the last value that came for it. -/
theorem mem_lastValues (bs : List (Nat × Byte)) (a : Nat) (v : Byte) :
    (a, v) ∈ lastValues bs ↔ (bs.reverse.find? fun x => x.1 == a) = some (a, v) := by
  induction bs using List.reverseRecOn with
  | nil => simp [lastValues]
  | append_singleton bs x ih =>
    rw [lastValues_concat, mem_applyLater (rising_lastValues bs), List.reverse_concat, ih]
    obtain ⟨b, u⟩ := x
    by_cases h : b = a
    · subst h
      simp [eq_comm]
    · simp [h, Ne.symm h]

/-! ## The two passes -/

theorem rising_filter {bs : List (Nat × Byte)} (f : Nat × Byte → Bool) (h : Rising bs) :
    ((bs.filter f).map Prod.fst).Pairwise (· < ·) := List.pairwise_map.mpr (h.filter f)

/-- The mark addresses are those of the sixteen slots. -/
theorem isMarkAddr_iff (a : Nat) : isMarkAddr a = true ↔ ∃ n : SlotId, a = 0x0100 + 64 * n.val := by
  refine ⟨fun h => ?_, fun ⟨n, hn⟩ => (mark_address hn).1⟩
  simp only [isMarkAddr, inSlots, slotOffset, Bool.and_eq_true, decide_eq_true_eq, beq_iff_eq] at h
  obtain ⟨⟨hlow, hhigh⟩, hoff⟩ := h
  exact ⟨⟨(a - 0x0100) / 64, by omega⟩, by simp only; omega⟩

theorem mem_passOne (bs : List (Nat × Byte)) (x : Nat × Byte) :
    x ∈ passOne bs ↔ x ∈ bs ∧ ¬ ∃ n : SlotId, x.1 = 0x0100 + 64 * n.val := by
  rw [passOne, List.mem_filter, ← isMarkAddr_iff, Bool.not_eq_true', Bool.not_eq_true]

theorem mem_passTwo (bs : List (Nat × Byte)) (x : Nat × Byte) :
    x ∈ passTwo bs ↔ x ∈ bs ∧ ∃ n : SlotId, x.1 = 0x0100 + 64 * n.val := by
  rw [passTwo, List.mem_filter, ← isMarkAddr_iff]

/-! ## The commit of a burst -/

/-- A WRITE of 1 to 64 data bytes commits (R171). -/
theorem framing_raw {w : WriteBurst} (h1 : 1 ≤ w.data.length) (h64 : w.data.length ≤ 64) :
    w.raw.framing = .write w := by
  rw [WriteBurst.raw, framing_write _ _ h1 h64, addressOf_split]

theorem State.settleQualifier_link (s : State) : s.settleQualifier.link = s.link := by
  unfold State.settleQualifier
  split <;> rfl

/-- A burst that asks for DORMANT finds the latest sample taken, any other finds the part as it is (log 11). -/
theorem State.settleFor_write (s : State) {t : RawTransaction} {w : WriteBurst} (ht : t.framing = .write w) :
    s.settleFor t = if (0x0004, 0x02) ∈ appliedBytes s.link.portMode w then s.settleQualifier else s := by
  simp only [State.settleFor, ht, List.contains_iff_mem]

theorem State.settleFor_link (s : State) (t : RawTransaction) : (s.settleFor t).link = s.link := by
  unfold State.settleFor
  split
  · split
    · exact s.settleQualifier_link
    · rfl
  · rfl

/-- A WRITE of 1 to 64 data bytes, whichever row brings it, commits by the port mode it finds. -/
theorem exec_burst {i : Instr} {s : State} {w : WriteBurst} (hs : s.linkUp) (hi : Sends i w) (h1 : 1 ≤ w.data.length)
    (h64 : w.data.length ≤ 64) : exec i s = .next
      ((((Commit.start ((s.settleFor w.raw).shiftOut w.raw.bytes)).passes
        (appliedBytes s.link.portMode w)).endHoldoff).endDormant).finish := by
  have hmode : (s.settleFor w.raw).link.portMode = s.link.portMode :=
    congrArg (·.portMode) (s.settleFor_link w.raw)
  rw [exec_of_sends hi, State.transact_linkUp s _ hs, State.serve, framing_raw h1 h64]
  rw [← hmode]
  rfl

/-- Settles O6: the burst's bytes in their places, then the passes, then the commit. -/
theorem commitAppliesEachAddressOnce : Obligations.CommitAppliesEachAddressOnce := by
  unfold Obligations.CommitAppliesEachAddressOnce
  intro mode w applied mark
  have hrising : Rising applied := rising_lastValues _
  refine ⟨List.pairwise_map.mpr hrising, mem_lastValues _, rising_filter _ hrising, mem_passOne applied,
    rising_filter _ hrising, mem_passTwo applied, fun s i hs hi h1 h64 hmode => ?_⟩
  subst hmode
  rw [exec_burst hs hi h1 h64, State.settleFor_write s (framing_raw h1 h64)]
  rfl

end Sys2Proof.Machine
end

section
/-! SUPPORT. The words of the port that take what is written (R173, R177, R184, R188), and when a byte of the site
profile is kept (R178). -/

namespace Sys2Proof.Machine

/-! ## The lock, the holdoff word and the capture enables -/

/-- A WRITE of one byte that its owner keeps is that owner's change of the part, whichever row brings it. -/
theorem exec_byte_kept {i : Instr} {s : State} {a : BitVec 16} {v : Byte} {f : State → State} (hi : Sends i ⟨a, [v]⟩)
    (hs : s.linkUp) (hd : low13 a = 0x0004 → v ≠ 0x02) (hm : isMarkAddr (low13 a) = false)
    (hx : (Commit.start (s.echo a)).apply (low13 a, v) = (Commit.start (s.echo a)).onState f) :
    exec i s = .next ((f (s.echo a)).ended false) := by
  rw [exec_write_one hi hs hd, State.commit_one_kept _ _ _ f hm hx]

/-- The lock takes the two values it has, and no other (R177). -/
theorem Commit.apply_lock (m : Commit) (v : Byte) : m.apply (0x0005, v)
    = if v = 0x00 ∨ v = 0xA5 then m.onLink fun l => { l with lock := v } else m.drop := rfl

theorem Commit.apply_holdoffWord (m : Commit) (v : Byte) :
    m.apply (0x0006, v) = m.onAlert fun z => { z with holdoffWord := v } := rfl

theorem Commit.apply_enables_low (m : Commit) (v : Byte) :
    m.apply (0x0014, v) = m.onAlert fun z => { z with enables := z.enables.extractLsb' 8 8 ++ v } := rfl

theorem Commit.apply_enables_high (m : Commit) (v : Byte) :
    m.apply (0x0015, v) = m.onAlert fun z => { z with enables := v ++ z.enables.extractLsb' 0 8 } := rfl

/-- Settles O8: each word's byte is kept by its owner; a lock value that is none of the two is dropped. -/
theorem registerWordsTakeTheirValues : Obligations.RegisterWordsTakeTheirValues := by
  unfold Obligations.RegisterWordsTakeTheirValues
  intro s a v hs
  have hi := sends_registerWrite ⟨a, [v]⟩
  have hplain (k : Nat) (hk : k < 0x0100) (ha : low13 a = k) : isMarkAddr (low13 a) = false :=
    (outside_slots (.inl (ha ▸ hk))).1
  refine ⟨fun ha => ?_, fun ha => ?_, fun ha => ?_, fun ha => ?_⟩
  · have hm := hplain _ (by decide) ha
    have happly := Commit.apply_lock (Commit.start (s.echo a)) v
    rw [← ha] at happly
    by_cases hv : v = 0x00 ∨ v = 0xA5
    · rw [if_pos hv, exec_byte_kept hi hs (by omega) hm (happly.trans (if_pos hv))]
      rfl
    · rw [if_neg hv, exec_byte_dropped hi hs (by omega) hm (happly.trans (if_neg hv))]
  · exact exec_byte_kept hi hs (by omega) (hplain _ (by decide) ha) (ha ▸ Commit.apply_holdoffWord _ v)
  · exact exec_byte_kept hi hs (by omega) (hplain _ (by decide) ha) (ha ▸ Commit.apply_enables_low _ v)
  · exact exec_byte_kept hi hs (by omega) (hplain _ (by decide) ha) (ha ▸ Commit.apply_enables_high _ v)

/-! ## Bytes of the site profile (R178) -/

theorem sends_profileWrite (w : WriteBurst) : Sends (.profileWrite w) w := by simp [Sends]

/-- The blocks do not act on a byte that is neither the fitted mask nor a cells-fitted. -/
theorem Engine.profileChanged_plain (e : Engine) (old new : Profile) {k : Nat} (hk : k = 1 ∨ 10 ≤ k) (v : Byte) :
    e.profileChanged old new k v = e := by
  rw [Engine.profileChanged, if_neg (by omega), dif_neg (by omega)]

/-- A kept change of such a byte changes the profile alone. -/
theorem State.writeProfile_plain {s : State} {k : Nat} {v : Byte} (hs : s.calm) (hk : k = 1 ∨ 10 ≤ k)
    (hne : profileByte s.profile k ≠ v) : s.writeProfile k v = { s with profile := s.profile.changed k v } := by
  have hsame := s.eng.profileChanged_plain s.profile (s.profile.changed k v) hk v
  rw [State.writeProfile_change hne, State.act_plain _ _ ((congrArg Engine.agenda hsame).trans hs.1)
    ((congrArg Engine.raised hsame).trans hs.2), hsame]

/-- Settles O11: the byte that the profile drops, then the kept byte that is equal, and the kept byte that differs. -/
theorem profileBytesAreGuarded : Obligations.ProfileBytesAreGuarded := by
  unfold Obligations.ProfileBytesAreGuarded
  intro s a v k hs hcalm hk ha
  have hexec := exec_profileByte (sends_profileWrite ⟨a, [v]⟩) hs hk ha
  refine ⟨fun hguard => ?_, fun hno hlock hflag => ?_⟩
  · have hdropped : ¬ s.keepsProfile k = true := fun hkeeps => by
      obtain ⟨hno, hlock, hflag⟩ := State.keepsProfile_iff.mp hkeeps
      rcases hguard with h | h | h
      · exact Bool.false_ne_true (h.symm.trans hno)
      · exact hlock h
      · exact hflag h
    rw [hexec, if_neg hdropped]
  · rw [if_pos (State.keepsProfile_iff.mpr ⟨hno, hlock, hflag⟩)] at hexec
    refine ⟨fun heq => ?_, fun hne hplain => ?_⟩
    · rw [hexec, State.writeProfile_equal (s.echo a) k v heq]
    · rw [hexec, State.writeProfile_plain (s := s.echo a) hcalm hplain hne]
      rfl

end Sys2Proof.Machine
end

section
/-! SUPPORT. A CONFIRM_PROFILE that fails, and the fields of the check (R179, R180, R186, section 11.3). -/

namespace Sys2Proof.Machine

/-! ## The confirmation that fails -/

theorem State.takeConfirm_fails {s : State} {k : Nat} (h : profileReject s.profile = some k) :
    s.takeConfirm = s.confirmFail k := by
  simp only [State.takeConfirm, h]

/-- What is required of a field of the check: its range, and what is also required of it. -/
def checkPasses (p : Profile) (x : ProfileField × Bool) : Bool := fieldInRange p x.1 && x.2

theorem checkPasses_iff (p : Profile) (x : ProfileField × Bool) :
    checkPasses p x = true ↔ x.1.low ≤ fieldRaw p x.1 ∧ fieldRaw p x.1 ≤ x.1.high ∧ x.2 = true := by
  simp only [checkPasses, fieldInRange, Bool.and_eq_true, decide_eq_true_eq, and_assoc]

theorem profileReject_eq (p : Profile) :
    profileReject p = ((profileChecks p).find? fun x => !checkPasses p x).map fun x => x.1.offset := rfl

/-- The check stops at the first field that fails. -/
theorem profileReject_first {p : Profile} {before after : List (ProfileField × Bool)} {x : ProfileField × Bool}
    (hchecks : profileChecks p = before ++ x :: after) (hbefore : ∀ y ∈ before, checkPasses p y = true)
    (hx : checkPasses p x = false) : profileReject p = some x.1.offset := by
  have hnone : before.find? (fun y => !checkPasses p y) = none :=
    List.find?_eq_none.mpr fun y hy => by simp [hbefore y hy]
  rw [profileReject_eq, hchecks, List.find?_append, hnone, Option.none_or, List.find?_cons_of_pos (by simp [hx])]
  rfl

/-! ## The values of the fields -/

/-- A byte of the profile as a number. -/
def Profile.byteAt (p : Profile) (k : Nat) : Int := (profileByte p k).toNat

/-- Two bytes of the profile as a number, the least significant first (chapter 11). -/
def Profile.wordAt (p : Profile) (k : Nat) : Int := p.byteAt k + 256 * p.byteAt (k + 1)

/-- Two bytes of the profile as a signed number. -/
def Profile.signedAt (p : Profile) (k : Nat) : Int := if p.wordAt k < 32768 then p.wordAt k else p.wordAt k - 65536

theorem fieldRaw_byte (p : Profile) (k : Nat) (signed : Bool) (low high : Int) :
    fieldRaw p ⟨k, 1, signed, low, high⟩ = p.byteAt k := rfl

theorem half_toNat (high low : Byte) : (high ++ low : Half).toNat = low.toNat + 256 * high.toNat := by
  rw [BitVec.toNat_append, ← Nat.shiftLeft_add_eq_or_of_lt low.isLt, Nat.shiftLeft_eq]
  omega

theorem fieldRaw_unsigned (p : Profile) (k : Nat) (low high : Int) :
    fieldRaw p ⟨k, 2, false, low, high⟩ = p.wordAt k := by
  have hraw : fieldRaw p ⟨k, 2, false, low, high⟩ = (profileByte p (k + 1) ++ profileByte p k : Half).toNat := rfl
  rw [hraw, half_toNat, Profile.wordAt, Profile.byteAt, Profile.byteAt]
  push_cast
  rfl

theorem fieldRaw_signed (p : Profile) (k : Nat) (low high : Int) :
    fieldRaw p ⟨k, 2, true, low, high⟩ = p.signedAt k := by
  have hraw : fieldRaw p ⟨k, 2, true, low, high⟩ = (profileByte p (k + 1) ++ profileByte p k : Half).toInt := rfl
  rw [hraw, BitVec.toInt_eq_toNat_cond, half_toNat, Profile.signedAt, Profile.wordAt, Profile.byteAt, Profile.byteAt]
  push_cast
  split <;> split <;> omega

/-! ## What is also required -/

/-- The mask is not empty exactly where its value is not 0. -/
theorem byte_bne_zero (v : Byte) : (v != 0) = ((v.toNat : Int) != 0) := by
  revert v; decide

/-- Bits 7:3 of a byte are clear exactly where its value is below 8. -/
theorem byte_bits_7_3_clear (v : Byte) : (v &&& 0xF8 == 0) = decide ((v.toNat : Int) < 8) := by
  revert v; decide

/-- A field of the check as the manual's table has it: its offset, its value, the ends of its range, and what is also
required of it. -/
def tableRow (p : Profile) (x : ProfileField × Bool) : Nat × Int × Int × Int × Bool :=
  (x.1.offset, fieldRaw p x.1, x.1.low, x.1.high, x.2)

theorem tableRow_byte (p : Profile) (k : Nat) (signed : Bool) (low high : Int) (also : Bool) :
    tableRow p (⟨k, 1, signed, low, high⟩, also) = (k, p.byteAt k, low, high, also) := rfl

theorem tableRow_unsigned (p : Profile) (k : Nat) (low high : Int) (also : Bool) :
    tableRow p (⟨k, 2, false, low, high⟩, also) = (k, p.wordAt k, low, high, also) := by
  rw [tableRow, fieldRaw_unsigned]

theorem tableRow_signed (p : Profile) (k : Nat) (low high : Int) (also : Bool) :
    tableRow p (⟨k, 2, true, low, high⟩, also) = (k, p.signedAt k, low, high, also) := by
  rw [tableRow, fieldRaw_signed]

/-- The mask, and the reserve count below the number of fitted strings. -/
theorem tableRows_strings (p : Profile) :
    [(fldMask, fittedMask p != 0), (fldReserve, decide (fieldRaw p fldReserve < fittedCount p))].map (tableRow p)
      = [(0x00, p.byteAt 0x00, 0, 255, p.byteAt 0x00 != 0),
         (0x01, p.byteAt 0x01, 1, 7, decide (p.byteAt 0x01 < fittedCount p))] := by
  simp only [List.map_cons, List.map_nil, fldMask, fldReserve, tableRow_byte, fieldRaw_byte, fittedMask, byte_bne_zero]
  rfl

/-- The cells-fitted of a string, which a fitted string needs to be at least 1. -/
theorem tableRow_cells (p : Profile) (g : StringId) :
    tableRow p (fldCells g, !isFitted p g || decide (1 ≤ fieldRaw p (fldCells g)))
      = (2 + g.val, p.byteAt (2 + g.val), 0, 24, !isFitted p g || decide (1 ≤ p.byteAt (2 + g.val))) := rfl

/-- Settles O15: the confirmation that fails, the field it names, and the fields of the check one by one. -/
theorem confirmationFails : Obligations.ConfirmationFails := by
  unfold Obligations.ConfirmationFails
  refine ⟨fun s a k hs ha hk => ?_, fun p before after f also hchecks hbefore hfails => ?_, fun p => ?_⟩
  · rw [exec_confirmProfile hs ha, State.takeConfirm_fails (s := s.echo a) hk]
    rfl
  · refine profileReject_first (x := (f, also)) hchecks (fun x hx => (checkPasses_iff p x).mpr (hbefore x hx)) ?_
    rw [← Bool.not_eq_true, checkPasses_iff]
    rintro ⟨hlow, hhigh, halso⟩
    rcases hfails with h | h | h
    · exact h.not_ge hlow
    · exact h.not_ge hhigh
    · exact Bool.false_ne_true (h.symm.trans halso)
  · simp only [profileChecks, List.map_append, List.map_map]
    refine congrArg₂ (· ++ ·) (congrArg₂ (· ++ ·) (tableRows_strings p)
      (List.map_congr_left fun g _ => tableRow_cells p g)) ?_
    change List.map (tableRow p) _ = _
    simp only [List.map_cons, List.map_nil, fldCellHigh, fldHotStart, fldHotAbort, fldTempCoef, fldMatchBand,
      fldTransfer, fldPrecharge, fldRamp, fldHoldInterval, fldMatchTimeout, fldRest, fldWakeSettle, fldLineIdle, fldWindow,
      fldRecovery, fldQualify, fldPulse, fldDry, fldStop, fldFill, fldVerify, fldWake, fldFlags, tableRow_byte,
      tableRow_unsigned, tableRow_signed, fieldRaw_signed, byte_bits_7_3_clear]
    rfl

end Sys2Proof.Machine
end

section
/-! SUPPORT. The alert unit's own operations: bits cleared by ones, the holdoff timer, and the wakes of a DORMANT part
(R183, R187, R188, R193). -/

namespace Sys2Proof.Machine

/-! ## ALERT# as each operation leaves it (R187) -/

theorem Alert.startHoldoff_eq (x : Alert) :
    x.startHoldoff = { x with holdoff := some (10 * x.holdoffWord.toNat), asserted := false } := by
  simp [Alert.startHoldoff, Alert.refresh]

theorem Alert.endHoldoff_eq (x : Alert) :
    x.endHoldoff = { x with holdoff := none, asserted := x.status != 0 } := by
  simp [Alert.endHoldoff, Alert.refresh]

/-! ## Status bits cleared by ones (R183, R188) -/

theorem Commit.apply_status_low (m : Commit) (v : Byte) : m.apply (0x0012, v) = m.clearStatus false v := rfl

theorem Commit.apply_status_high (m : Commit) (v : Byte) : m.apply (0x0013, v) = m.clearStatus true v := rfl

/-- A byte with no one at a set bit clears nothing and starts no holdoff. -/
theorem Commit.clearStatus_unset {m : Commit} {high : Bool} {v : Byte}
    (h : m.st.alert.status &&& statusMask high v = 0) :
    m.clearStatus high v = m.onAlert fun x => x.clearBits (statusMask high v) := if_neg fun hset => hset.1 h

/-- A byte with a one at a set bit starts the holdoff, where its commit has not started it yet. -/
theorem Commit.clearStatus_set {m : Commit} {high : Bool} {v : Byte}
    (h : m.st.alert.status &&& statusMask high v ≠ 0) (hfirst : m.holdoffStarted = false) :
    m.clearStatus high v = { m.onAlert fun x => (x.clearBits (statusMask high v)).startHoldoff with
      holdoffStarted := true } := if_pos ⟨h, by rw [hfirst]; rfl⟩

/-- The holdoff that the commit has started is over at once exactly where the holdoff word is 0. -/
theorem Commit.endHoldoff_started {m : Commit} (hstarted : m.holdoffStarted = true)
    (hholdoff : m.st.alert.holdoff = some (10 * m.st.alert.holdoffWord.toNat)) :
    m.endHoldoff = if m.st.alert.holdoffWord = 0 then m.onAlert Alert.endHoldoff else m := by
  have hzero : (m.st.alert.holdoff == some 0) = true ↔ m.st.alert.holdoffWord = 0 := by
    rw [hholdoff, beq_iff_eq, Option.some.injEq, BitVec.toNat_eq]
    simp
  simp only [Commit.endHoldoff, hstarted, Bool.true_and, hzero]

/-- The commit of one byte of the status word. -/
theorem State.commit_statusByte {s : State} {high : Bool} {v : Byte} :
    ((Commit.start s).clearStatus high v).endHoldoff.endDormant.finish
      = { s.ended false with alert :=
          if s.alert.status &&& statusMask high v = 0 then s.alert.clearBits (statusMask high v)
          else if s.alert.holdoffWord = 0 then (s.alert.clearBits (statusMask high v)).startHoldoff.endHoldoff
          else (s.alert.clearBits (statusMask high v)).startHoldoff } := by
  by_cases hset : s.alert.status &&& statusMask high v = 0
  · rw [Commit.clearStatus_unset (m := Commit.start s) hset, if_pos hset]
    rfl
  · rw [Commit.clearStatus_set (m := Commit.start s) hset rfl, Commit.endHoldoff_started rfl rfl, if_neg hset]
    by_cases hword : s.alert.holdoffWord = 0
    · rw [if_pos hword, if_pos (by exact hword)]
      rfl
    · rw [if_neg hword, if_neg (by exact hword)]
      rfl

theorem sends_eventStatusClear (w : WriteBurst) : Sends (.eventStatusClear w) w := by simp [Sends]

/-- An EVENT_STATUS_CLEAR of one byte, at either half of the status word. -/
theorem exec_eventStatusClear {s : State} {a : BitVec 16} {v : Byte} {high : Bool} (hs : s.linkUp)
    (ha : low13 a = if high then 0x0013 else 0x0012) : exec (.eventStatusClear ⟨a, [v]⟩) s
      = .next ((Commit.start (s.echo a)).clearStatus high v).endHoldoff.endDormant.finish := by
  have hplain : low13 a ≠ 0x0004 ∧ isMarkAddr (low13 a) = false := by cases high <;> rw [ha] <;> decide
  have happly : (Commit.start (s.echo a)).apply (low13 a, v) = (Commit.start (s.echo a)).clearStatus high v := by
    rw [ha]
    cases high
    · exact Commit.apply_status_low _ v
    · exact Commit.apply_status_high _ v
  rw [exec_write_one (sends_eventStatusClear _) hs (fun h => absurd h hplain.1),
    State.commit_one_plain _ _ _ hplain.2, happly]

/-- Settles O16: the byte of either half of the word, by whether a set bit is cleared and whether the holdoff is 0. -/
theorem statusBitsAreClearedByOnes : Obligations.StatusBitsAreClearedByOnes := by
  unfold Obligations.StatusBitsAreClearedByOnes
  intro s a v m hs hm
  obtain ⟨high, ha, rfl⟩ : ∃ high : Bool, low13 a = (if high then 0x0013 else 0x0012) ∧ m = statusMask high v := by
    obtain ⟨ha, hm⟩ | ⟨ha, hm⟩ := hm
    · exact ⟨false, ha, hm⟩
    · exact ⟨true, ha, hm⟩
  rw [exec_eventStatusClear hs ha, State.commit_statusByte, Alert.startHoldoff_eq, Alert.endHoldoff_eq]
  rfl

/-! ## The holdoff timer (R188) -/

theorem exec_holdoffExpiry {s : State} (hs : s.held = none) (h : s.alert.holdoff ≠ none) :
    exec .holdoffExpiry s = .next { s with alert := s.alert.endHoldoff } :=
  congrArg Host.Outcome.next (if_pos (by simp [hs, Option.isSome_iff_ne_none, h]))

theorem exec_holdoffExpiry_idle {s : State} (h : s.alert.holdoff = none) : exec .holdoffExpiry s = .next s :=
  congrArg Host.Outcome.next (if_neg (by simp [h]))

/-! ## Wakes (R193) -/

theorem State.wake_dormant {s : State} (src : WakeSource) (h : s.alert.power = .dormant) : s.wake src
    = { s with alert := { s.alert with power := .active, wakeSource := src, wakeTimer := none } } := if_pos h

theorem State.wake_active {s : State} (src : WakeSource) (h : s.alert.power = .active) : s.wake src = s :=
  if_neg (by rw [h]; decide)

theorem State.wakeDue_iff {s : State} :
    s.wakeDue = true ↔ ∃ d, s.alert.wakeTimer = some d ∧ (s.eng.clock - d).toNat < 2 ^ 31 := by
  unfold State.wakeDue
  split <;> simp [reached, *]

theorem exec_wakeTimerExpiry {s : State} (hs : s.held = none) (h : s.wakeDue = true) :
    exec .wakeTimerExpiry s = .next (s.wake .wakeTimer) := congrArg Host.Outcome.next (if_pos (by simp [hs, h]))

theorem exec_wakeTimerExpiry_early {s : State} (h : ¬ s.wakeDue = true) : exec .wakeTimerExpiry s = .next s :=
  congrArg Host.Outcome.next (if_neg (by simp [h]))

theorem exec_supplyWake {s : State} (l : SupplyLine) (hs : s.held = none) :
    exec (.supplyWake l) s = .next (if (profileByte s.profile 0x2D).getLsbD 2 then s.wake .supplyLine else s) := by
  simp [exec, execSupplyWake, supplyWakeFlag, hs]

/-- Settles O18: the holdoff timer that runs and the one that does not, the wake timer by its value, and the supply line
by the flag and the power state. -/
theorem alertUnitTimersAndWakes : Obligations.AlertUnitTimersAndWakes := by
  unfold Obligations.AlertUnitTimersAndWakes
  intro s hs
  refine ⟨fun hrun => ?_, exec_holdoffExpiry_idle, fun d hp hd hdue => ?_, fun d hd hearly => ?_, fun hnone => ?_,
    fun l => ⟨fun hp hflag => ?_, fun hflag => ?_, fun hp => ?_⟩⟩
  · rw [exec_holdoffExpiry hs hrun, Alert.endHoldoff_eq]
  · rw [exec_wakeTimerExpiry hs (State.wakeDue_iff.mpr ⟨d, hd, hdue⟩), State.wake_dormant _ hp]
  · refine exec_wakeTimerExpiry_early fun h => ?_
    obtain ⟨d', hd', hdue⟩ := State.wakeDue_iff.mp h
    obtain rfl : d = d' := Option.some.inj (hd.symm.trans hd')
    exact hdue.not_ge hearly
  · refine exec_wakeTimerExpiry_early fun h => ?_
    obtain ⟨d, hd, -⟩ := State.wakeDue_iff.mp h
    exact Option.some_ne_none d (hd.symm.trans hnone)
  · rw [exec_supplyWake l hs, if_pos hflag, State.wake_dormant _ hp]
  · rw [exec_supplyWake l hs, if_neg (ne_true_of_eq_false hflag)]
  · rw [exec_supplyWake l hs, State.wake_active _ hp, ite_self]

end Sys2Proof.Machine
end

section
/-! SUPPORT. Every command leaves ALERT# asserted exactly while a status bit is set, no holdoff runs and the part is not
held in reset (R187, R195). -/

namespace Sys2Proof.Machine

/-! ## A part that is not held -/

/-- The part is not held in reset, and ALERT# follows the status word and the holdoff timer. -/
structure State.LineFree (s : State) : Prop where
  free : s.held = none
  line : s.alert.lineOk

/-- Of a part that is not held, the law of ALERT# says no more than that the line follows word and timer. -/
theorem State.alertOk_iff_lineOk {s : State} (h : s.held = none) : s.alertOk ↔ s.alert.lineOk := by
  simp [State.alertOk, Alert.lineOk, h]

theorem State.LineFree.alertOk {s : State} (h : s.LineFree) : s.alertOk := (State.alertOk_iff_lineOk h.free).mpr h.line

theorem State.alertOk.lineFree {s : State} (h : s.alertOk) (hs : s.held = none) : s.LineFree :=
  ⟨hs, (State.alertOk_iff_lineOk hs).mp h⟩

theorem State.LineFree.ite {q : Prop} [Decidable q] {t u : State} (ht : t.LineFree) (hu : u.LineFree) :
    (if q then t else u).LineFree := by split <;> assumption

section
variable {s : State} (h : s.LineFree)
include h

/-- The queue, the profile, the link and the blocks have no part in it. -/
theorem State.LineFree.same {t : State} (hheld : t.held = s.held) (halert : t.alert = s.alert) : t.LineFree :=
  ⟨hheld.trans h.free, halert ▸ h.line⟩

/-- Whatever the blocks do, the events they hand over are judged one by one (R182). -/
theorem State.LineFree.act (f : Engine → Engine) : (s.act f).LineFree := ⟨h.free, Alert.captures_lineOk _ _ h.line⟩

theorem State.LineFree.signal (ev : Event) : (s.signal ev).LineFree := ⟨h.free, Alert.capture_lineOk _ ev h.line⟩

theorem State.LineFree.readBack (v : Byte) : (s.readBack v).LineFree := h.same rfl rfl

theorem State.LineFree.portError (v : Byte) : (s.portError v).LineFree := ⟨h.free, Alert.capture_lineOk _ _ h.line⟩

theorem State.LineFree.wake (src : WakeSource) : (s.wake src).LineFree := .ite ⟨h.free, h.line⟩ h

theorem State.LineFree.settleQualifier : s.settleQualifier.LineFree := by
  unfold State.settleQualifier
  split
  · exact h.act _
  · exact h

theorem State.LineFree.settleFor (t : RawTransaction) : (s.settleFor t).LineFree := by
  unfold State.settleFor
  split
  · exact .ite h.settleQualifier h
  · exact h

theorem State.LineFree.takeStandDown : s.takeStandDown.LineFree := .ite (h.readBack _) ((h.readBack _).act _)

theorem State.LineFree.refuseDormant : s.refuseDormant.LineFree := (h.readBack _).signal _

theorem State.LineFree.takeConfirm : s.takeConfirm.LineFree := by
  unfold State.takeConfirm
  split
  · exact h.same rfl rfl
  · exact ⟨h.free, Alert.capture_lineOk _ _ h.line⟩

theorem State.LineFree.writeProfile (k : Nat) (v : Byte) : (s.writeProfile k v).LineFree := by
  unfold State.writeProfile
  split
  · exact h
  · dsimp only
    exact State.LineFree.act (by exact h.same rfl rfl) _

end

/-! ## The commit (R172 to R174) -/

section
variable {m : Commit} (h : m.st.LineFree)
include h

theorem State.LineFree.drop : m.drop.st.LineFree := by
  unfold Commit.drop
  split
  · exact h
  · exact h.portError 2

theorem State.LineFree.control (v : Byte) : (m.control v).st.LineFree := by
  unfold Commit.control Commit.takeDormant
  split
  · exact h.takeStandDown
  · split
    · split
      · exact h.readBack _
      · exact h.refuseDormant
    · split
      · exact h.takeConfirm
      · exact h.drop

/-- Bits that are cleared and a holdoff that starts leave the line as its conditions have it. -/
theorem State.LineFree.clearStatus (high : Bool) (v : Byte) : (m.clearStatus high v).st.LineFree := by
  unfold Commit.clearStatus
  dsimp only
  split
  · exact ⟨h.free, Alert.refresh_lineOk _⟩
  · exact ⟨h.free, Alert.refresh_lineOk _⟩

theorem State.LineFree.body (n : SlotId) (off : Nat) (v : Byte) : (m.body n off v).st.LineFree := by
  unfold Commit.body
  split
  · exact h.same rfl rfl
  · exact h.drop

theorem State.LineFree.apply (x : Nat × Byte) : (m.apply x).st.LineFree := by
  unfold Commit.apply
  dsimp only
  split
  · split
    · exact h.same rfl rfl
    · exact h.drop
  · split
    · exact h.control _
    · split
      · split
        · exact h.same rfl rfl
        · exact h.drop
      · split
        · exact ⟨h.free, h.line⟩
        · split
          · exact h.clearStatus _ _
          · split
            · exact ⟨h.free, h.line⟩
            · split
              · split
                · exact h.writeProfile _ _
                · exact h.drop
              · split
                · exact h.body _ _ _
                · exact h.drop

theorem State.LineFree.mark (x : Nat × Byte) : (m.mark x).st.LineFree := by
  unfold Commit.mark
  split
  · exact h.act fun _ => _
  · exact h.portError 3

/-- What every byte of a pass keeps, the pass keeps. -/
theorem State.LineFree.pass {f : Commit → Nat × Byte → Commit} (hf : ∀ m x, m.st.LineFree → (f m x).st.LineFree)
    (bs : List (Nat × Byte)) : (bs.foldl f m).st.LineFree := by
  induction bs generalizing m with
  | nil => exact h
  | cons x bs ih => exact ih (hf m x h)

theorem State.LineFree.passes (bs : List (Nat × Byte)) : (m.passes bs).st.LineFree :=
  State.LineFree.pass (State.LineFree.pass h (fun _ x hm => hm.apply x) _) (fun _ x hm => hm.mark x) _

theorem State.LineFree.endHoldoff : m.endHoldoff.st.LineFree := by
  unfold Commit.endHoldoff
  split
  · exact ⟨h.free, Alert.refresh_lineOk _⟩
  · exact h

theorem State.LineFree.endDormant : m.endDormant.st.LineFree := by
  unfold Commit.endDormant
  split
  · split
    · exact ⟨h.free, h.line⟩
    · exact h.refuseDormant
  · exact h

end

/-! ## Transactions and resets -/

section
variable {s : State}

theorem State.LineFree.commit (h : s.LineFree) (w : WriteBurst) : (s.commit w).LineFree :=
  (State.LineFree.passes (m := Commit.start s) h _).endHoldoff.endDormant.same rfl rfl

theorem State.LineFree.serve (h : s.LineFree) (t : RawTransaction) : (s.serve t).LineFree := by
  have hshift : (s.shiftOut t.bytes).LineFree := h.same rfl rfl
  unfold State.serve
  split
  · exact h
  · exact hshift.same rfl rfl
  · exact hshift.commit _
  · exact (hshift.portError 1).same rfl rfl

theorem State.held_of_not_deaf (h : s.linkDeaf = false) : s.held = none := by
  simp only [State.linkDeaf, Bool.or_eq_false_iff, Option.isSome_eq_false_iff, Option.isNone_iff_eq_none] at h
  exact h.1

/-- A part that is held in reset takes no transaction (R181). -/
theorem State.transact_alertOk (h : s.alertOk) (t : RawTransaction) : (s.transact t).alertOk := by
  cases hdeaf : s.linkDeaf with
  | true => rwa [State.transact_deaf t hdeaf]
  | false =>
    have hserved := (((h.lineFree (State.held_of_not_deaf hdeaf)).wake .link).settleFor t).serve t
    rw [State.transact, hdeaf]
    exact hserved.alertOk

/-- A change that only a part that is not held makes. -/
theorem State.alertOk.guarded {q : Prop} [Decidable q] {t : State} (h : s.alertOk) (hq : q → s.held = none)
    (ht : s.LineFree → t.LineFree) : (if q then t else s).alertOk := by
  split
  · rename_i hyes
    exact (ht (h.lineFree (hq hyes))).alertOk
  · exact h

theorem State.awake_held (h : s.awake = true) : s.held = none := (State.awake_iff.mp h).1

theorem State.held_of_isNone_and {b : Bool} (h : (s.held.isNone && b) = true) : s.held = none :=
  Option.isNone_iff_eq_none.mp ((Bool.and_eq_true _ _).mp h).1

theorem State.alertOk.whenFree (h : s.alertOk) (f : Engine → Engine) : (s.whenFree f).alertOk :=
  h.guarded Option.isNone_iff_eq_none.mp fun hfree => hfree.act f

theorem State.alertOk.whenAwake (h : s.alertOk) (f : Engine → Engine) : (s.whenAwake f).alertOk :=
  h.guarded State.awake_held fun hfree => hfree.act f

/-- A reset clears the status word and releases ALERT# while it holds the part (R187, R195). -/
theorem State.alertOk_of_reset {x : Alert} (h : s.alert = x.reset) : s.alertOk := by
  rw [State.alertOk, h]
  rfl

/-- The event of a reset is captured whatever the enables, so ALERT# is judged as the part leaves it (R182, R195). -/
theorem Alert.leave_lineOk (x : Alert) (k : ResetKind) : (x.leave k).lineOk := by cases k <;> rfl

theorem State.leaveReset_alertOk (s : State) (k : ResetKind) (csLow : Bool) (contacts : Vector Contact 8) :
    (s.leaveReset k csLow contacts).alertOk := State.LineFree.alertOk ⟨rfl, s.alert.leave_lineOk k⟩

theorem State.alertOk.ite {q : Prop} [Decidable q] {t u : State} (ht : t.alertOk) (hu : u.alertOk) :
    (if q then t else u).alertOk := by split <;> assumption

/-! ## Every command -/

/-- Each command is a transaction, work of the blocks where the part attends, a timer or wake of the alert unit, or an
edge of a reset; each keeps the law of ALERT#. -/
theorem exec_alertOk (i : Instr) (h : s.alertOk) : ∃ t, exec i s = .next t ∧ t.alertOk := by
  cases i with
  | read | framingError | registerWrite | bodyWrite | profileWrite | eventStatusClear | standDown | goDormant
  | confirmProfile | post | release | withdraw => exact ⟨_, rfl, State.transact_alertOk h _⟩
  | restEnded | feedbackChange | transferTimeout | settlingReading | flowPulse => exact ⟨_, rfl, h.whenFree _⟩
  | sample => exact ⟨_, rfl, h.guarded State.awake_held fun hfree => hfree.settleQualifier.act _⟩
  | supplyLineQualified => exact ⟨_, rfl, h.guarded State.awake_held State.LineFree.settleQualifier⟩
  | holdoffExpiry =>
    exact ⟨_, rfl, h.guarded State.held_of_isNone_and fun hfree => ⟨hfree.free, Alert.refresh_lineOk _⟩⟩
  | wakeTimerExpiry | supplyWake => exact ⟨_, rfl, h.guarded State.held_of_isNone_and fun hfree => hfree.wake _⟩
  | powerOnReset edge =>
    cases edge with
    | taken => exact ⟨_, rfl, State.alertOk_of_reset rfl⟩
    | left csLow contacts => exact ⟨_, rfl, (s.leaveReset_alertOk _ csLow contacts).ite h⟩
  | pinReset edge =>
    cases edge with
    | taken => exact ⟨_, rfl, State.alertOk.ite (State.alertOk_of_reset rfl) h⟩
    | left csLow contacts => exact ⟨_, rfl, (s.leaveReset_alertOk _ csLow contacts).ite h⟩
  | partClockAdvance | csRiseAfterReset => exact ⟨_, rfl, by split <;> exact h⟩
  | _ => exact ⟨_, rfl, h.whenAwake _⟩

end

/-- Settles O19: what every command keeps, a step keeps, with or without a command. -/
theorem alertLineFollowsStatusAndHoldoff : Obligations.AlertLineFollowsStatusAndHoldoff := by
  unfold Obligations.AlertLineFollowsStatusAndHoldoff
  intro s t hs ht
  unfold stepsTo step at ht
  split at ht
  · cases ht
    exact hs
  · rename_i i rest _
    have hqueued : (s.withQueue rest).alertOk := hs
    obtain ⟨u, hu, hok⟩ := exec_alertOk i hqueued
    obtain rfl : u = t := Host.Outcome.next.inj (hu.symm.trans ht)
    exact hok

end Sys2Proof.Machine
end

section
/-! SUPPORT. The port mode word (R197). -/

namespace Sys2Proof.Machine

/-- The values the port mode word takes are those with bits 7:3 clear. -/
theorem portModeOk_iff (v : Byte) : portModeOk v = true ↔ v &&& 0xF8 = 0 := by
  have hbits := byte_bits_7_3_clear v
  rw [portModeOk, decide_eq_true_iff, ← beq_iff_eq (a := v &&& 0xF8), hbits, decide_eq_true_iff]
  exact Nat.cast_lt_ofNat.symm

/-- The port mode word takes the values with bits 7:3 clear, and no other. -/
theorem Commit.apply_portMode (m : Commit) (v : Byte) : m.apply (0x0003, v)
    = if v &&& 0xF8 = 0 then m.onLink fun l => { l with portMode := v } else m.drop := by
  simp only [← portModeOk_iff]
  rfl

/-- A WRITE of one byte to the port mode word, by the value written. -/
theorem exec_portMode {s : State} {a : BitVec 16} (v : Byte) (hs : s.linkUp) (ha : low13 a = 0x0003) :
    exec (.registerWrite ⟨a, [v]⟩) s = .next
      (if v &&& 0xF8 = 0 then { (s.echo a).ended false with link := { ((s.echo a).ended false).link with portMode := v } }
       else (s.echo a).erred 2) := by
  have hi := sends_registerWrite ⟨a, [v]⟩
  have hm : isMarkAddr (low13 a) = false := (outside_slots (by omega)).1
  have happly := Commit.apply_portMode (Commit.start (s.echo a)) v
  rw [← ha] at happly
  by_cases hv : v &&& 0xF8 = 0
  · rw [if_pos hv, exec_byte_kept hi hs (by omega) hm (happly.trans (if_pos hv))]
    rfl
  · rw [if_neg hv, exec_byte_dropped hi hs (by omega) hm (happly.trans (if_neg hv))]

/-- The word reads back as it stands: it is the port's own word at its address (section 11.2). -/
theorem State.readByte_portMode (s : State) : s.readByte 0x0003 = s.link.portMode := rfl

/-- Settles O7: the byte that is written, by its bits 7:3; the word as it is read; then the burst of a READ by the word,
and the word as either reset is taken. -/
theorem portModeWord : Obligations.PortModeWord := by
  unfold Obligations.PortModeWord
  refine ⟨fun s a v hs ha => exec_portMode v hs ha, State.readByte_portMode, fun s a n hs hn => ?_,
    fun mode a k => rfl, by decide, by decide, by decide, by decide, rfl, fun s => ⟨rfl, rfl⟩⟩
  obtain ⟨hread, -, -⟩ := readsCarryTheSnapshot s hs
  exact ⟨_, hread a n hn, rfl⟩

end Sys2Proof.Machine
end

section
/-! SUPPORT. One step, by what waits in the queue (log 2). -/

namespace Sys2Proof.Machine

/-- With a command at the front of the queue, the step is that command, run with the queue's rest waiting. -/
theorem step_of_pending_cons {s : State} {i : Instr} {rest : List Instr} (h : s.pending = i :: rest) :
    step s = exec i (s.withQueue rest) := by
  rw [step, h]

/-- With nothing waiting, the part idles. -/
theorem step_of_pending_nil {s : State} (h : s.pending = []) : step s = .next s := by
  rw [step, h]

/-- Settles O1: the step by its queue, with a command at the front and with none. -/
theorem stepRunsTheFrontCommand : Obligations.StepRunsTheFrontCommand := by
  unfold Obligations.StepRunsTheFrontCommand
  exact ⟨fun _ _ _ hfront => step_of_pending_cons hfront, fun _ hempty => step_of_pending_nil hempty⟩

end Sys2Proof.Machine
end
